-- ==== Sys2Proof/Word.lean ====
section
/-! DEFINITION. The words of the engine and their plainest arithmetic (spec/00_scope.md R10, R11, R12). -/

namespace Sys2Proof

/-- One byte of a datagram or of the source payload memory (R11). -/
abbrev Byte := BitVec 8

/-- A 16-bit header field: `sequence`, `ack`, `window` (R101). Addition on it is the spec's `+16` (R12, R14). -/
abbrev Seq := BitVec 16

/-- A time in ticks, `TIME_W = 64` bits (R10, R13). -/
abbrev Time := BitVec 64

/-- A statistics counter, `CNT_W = 32` bits, wrapping (R10, R27, R31). -/
abbrev Count := BitVec 32

/-- A datagram: a byte string, the first byte on the wire first (R11, R72). -/
abbrev Datagram := List Byte

/-- The opaque peer address (R30, decision D29): any type with decidable equality will do
(spec/93_implementation_defined.md section 4, `ADDR_W`); log entry 6. -/
abbrev Addr := Nat

end Sys2Proof
end

