-- ==== Sys2Proof/Config.lean ====
section
/-! DEFINITION. The fixed parameters of the engine (spec/00_scope.md R8, R9), the parameters the spec leaves OPEN (R10), and the one
free value of the model. An open parameter and a free value are `opaque`: no proof can see what they are. -/

namespace Sys2Proof.Config

/-- `WINDOW_BYTES` (R8). -/
abbrev windowBytes : Nat := 400
/-- `MIN_CHUNK` (R8). -/
abbrev minChunk : Nat := 40
/-- `MAX_CHUNK` (R8). -/
abbrev maxChunk : Nat := 80
/-- `SLICE_STRIDE = MIN_CHUNK` (R9). -/
abbrev sliceStride : Nat := 40
/-- `RTO_INIT` in milliseconds (R8). -/
abbrev rtoInitMs : Nat := 300
/-- `RTT_DEPTH` (R8). -/
abbrev rttDepth : Nat := 10
/-- `MEDIAN_INDEX`, zero-based (R9, spec/90_conflicts.md C1). -/
abbrev medianIndex : Nat := 5
/-- `RTO_MULT` (R9). -/
abbrev rtoMult : Nat := 5
/-- `HS_MAX_ATTEMPTS` (R9). -/
abbrev hsMaxAttempts : Nat := 5
/-- `BACKOFF_FACTOR` (R9). -/
abbrev backoffFactor : Nat := 2
/-- The advertised `window` of every originated packet (R116). -/
abbrev advertisedWindow : Seq := 400

/-- `TICKS_PER_MS - 1`: OPEN, `TICKS_PER_MS >= 1` (R10, decision D2; log entry 3). -/
opaque ticksPerMsLessOne : Nat
/-- `TICKS_PER_MS` (R10). -/
def ticksPerMs : Nat := ticksPerMsLessOne + 1
/-- `ACK_TS_LEN`: OPEN, 0..255 (R10, decision D9; log entry 3). -/
opaque ackTsLen : BitVec 8
/-- `MAX_PEERS - 1`, or `none` for an unbounded table: OPEN, `MAX_PEERS >= 1` (R10, decision D28; log entry 3). -/
opaque maxPeersLessOne : Option Nat
/-- `MAX_PEERS`, `none` when unbounded (R10). -/
def maxPeers : Option Nat := maxPeersLessOne.map (· + 1)
/-- The address under which the responder sees this initiator (R20, R75): the environment's choice (log entry 6). -/
opaque iniAddr : Addr

/-- FREE VALUE: the timeout register after HS_FAILED, when the spec says that it "ceases to hold a value" (R194, decision D21;
log entry 9). The argument is `State.freeCount`. -/
opaque freeRto : Nat → Nat

end Sys2Proof.Config

namespace Sys2Proof

/-- The open parameters of R10, as one run has them. No operation writes them. -/
structure Params where
  /-- `TICKS_PER_MS` -/
  ticksPerMs : Nat
  /-- `ACK_TS_LEN` -/
  ackTsLen : BitVec 8
  /-- `MAX_PEERS`, `none` when unbounded -/
  maxPeers : Option Nat
  /-- the initiator's address as the responder sees it -/
  iniAddr : Addr
  deriving DecidableEq, Repr

/-- The parameters of the implementation: none of them is chosen here (log entry 3). -/
def Config.params : Params :=
  { ticksPerMs := Config.ticksPerMs, ackTsLen := Config.ackTsLen, maxPeers := Config.maxPeers, iniAddr := Config.iniAddr }

end Sys2Proof
end

