-- ==== Sys2Proof/Syntax.lean ====
section
/-! DEFINITION. The packets the engine understands: one constructor per row of spec/opcode_table.json
(spec/30_encoding.md R104, R106, R122). The reserved nibble is discarded by every decode (R102, R105) and so is no field. -/

namespace Sys2Proof

/-- What a parsed packet carries beside its type (spec/40_header_codec.md R145): the four other header fields,
and the bytes that follow the header. -/
structure Pkt where
  /-- `sequence`, 16 bits (R101). -/
  sequence : Seq
  /-- `ackNumber`, 16 bits (R101). -/
  ack : Seq
  /-- `window`, 16 bits; read by no rule (R116). -/
  window : Seq
  /-- `length`, 8 bits (R101). -/
  length : BitVec 8
  /-- the trailing bytes `d[8..len(d))` (R72, R145). -/
  payload : List Byte
  deriving DecidableEq, Repr

/-- A typed packet (R146): the tag is the type code. -/
inductive Instr where
  /-- type code 0, unassigned (R106) -/
  | type0 (p : Pkt)
  /-- type code 1 (R108) -/
  | syn (p : Pkt)
  /-- type code 2 (R109) -/
  | synAck (p : Pkt)
  /-- type code 3 (R112) -/
  | data (p : Pkt)
  /-- type code 4: handshake ACK, cumulative ACK, FIN acknowledgment (R110, R113, R115, R121) -/
  | ack (p : Pkt)
  /-- type code 5 (R114) -/
  | fin (p : Pkt)
  /-- type code 6 (R111) -/
  | config (p : Pkt)
  /-- type code 7, unassigned (R106) -/
  | type7 (p : Pkt)
  /-- type code 8, unassigned (R106) -/
  | type8 (p : Pkt)
  /-- type code 9, unassigned (R106) -/
  | type9 (p : Pkt)
  /-- type code 10, unassigned (R106) -/
  | type10 (p : Pkt)
  /-- type code 11, unassigned (R106) -/
  | type11 (p : Pkt)
  /-- type code 12, unassigned (R106) -/
  | type12 (p : Pkt)
  /-- type code 13, unassigned (R106) -/
  | type13 (p : Pkt)
  /-- type code 14, unassigned (R106) -/
  | type14 (p : Pkt)
  /-- type code 15, unassigned (R106) -/
  | type15 (p : Pkt)
  deriving DecidableEq, Repr

end Sys2Proof
end

