-- ==== Sys2Proof/WellFormed.lean ====
section
/-! DEFINITION. Well-formed packets: the length invariant of DATA and CONFIG (spec/30_encoding.md R107, R119). -/

namespace Sys2Proof

/-- The payload is exactly `length` bytes (R107). -/
def Pkt.lengthMatches (p : Pkt) : Bool := p.payload.length == p.length.toNat

/-- A packet that validation on receipt accepts (R119): for DATA and CONFIG the trailing byte count equals `length`;
of every other type neither is checked. -/
def Instr.wellFormed : Instr → Bool
  | .data p => p.lengthMatches
  | .config p => p.lengthMatches
  | .type0 _ => true
  | .syn _ => true
  | .synAck _ => true
  | .ack _ => true
  | .fin _ => true
  | .type7 _ => true
  | .type8 _ => true
  | .type9 _ => true
  | .type10 _ => true
  | .type11 _ => true
  | .type12 _ => true
  | .type13 _ => true
  | .type14 _ => true
  | .type15 _ => true

end Sys2Proof
end

