-- ==== Sys2Proof/Decode.lean ====
section
/-! DEFINITION. The Header Codec (spec/40_header_codec.md R140 to R145, spec/30_encoding.md R100 to R107): HC.DECODE, HC.PARSE
(the decoder), HC.ENCODE (the encoder), and the decoder read on a word of spec/opcode_table.json. -/

namespace Sys2Proof

/-- The five header fields (R32, R100). -/
structure Header where
  type : BitVec 4
  sequence : Seq
  ack : Seq
  window : Seq
  length : BitVec 8
  deriving DecidableEq, Repr

/-- Why a datagram is malformed (R119). -/
inductive Malformed where
  /-- fewer than 8 bytes: the source's `MalformedHeader` (R119 (1), R141). -/
  | shortHeader
  /-- a DATA or CONFIG packet whose trailing byte count is not `length` (R119 (2)). -/
  | lengthMismatch
  deriving DecidableEq, Repr

/-- `from_be16(b0, b1) = b0 * 256 + b1` (R11, R73). -/
def fromBe16 (b0 b1 : Byte) : Seq := b0 ++ b1

/-- `be16(v)`: the high byte first (R11, R73). -/
def be16 (v : Seq) : List Byte := [v.extractLsb' 8 8, v.extractLsb' 0 8]

/-- HC.DECODE (R141): fails exactly on fewer than 8 bytes; the reserved nibble is discarded (R102, R105). -/
def hcDecode : Datagram → Except Malformed Header
  | d0 :: d1 :: d2 :: d3 :: d4 :: d5 :: d6 :: d7 :: _ =>
    .ok { type := d0.extractLsb' 4 4, sequence := fromBe16 d1 d2, ack := fromBe16 d3 d4,
          window := fromBe16 d5 d6, length := d7 }
  | _ => .error .shortHeader

/-- Byte 0 as transmitted: `(type << 4) | 0x0F` (R103, R105). -/
def typeByte (type : BitVec 4) : Byte := (type.setWidth 8 <<< 4) ||| 0x0F#8

/-- HC.ENCODE (R140): exactly 8 bytes, the reserved nibble all ones. -/
def hcEncode (h : Header) : Datagram :=
  typeByte h.type :: (be16 h.sequence ++ be16 h.ack ++ be16 h.window ++ [h.length])

/-- The type code of a packet (R104, R106). -/
def Instr.code : Instr → BitVec 4
  | .type0 _ => 0
  | .syn _ => 1
  | .synAck _ => 2
  | .data _ => 3
  | .ack _ => 4
  | .fin _ => 5
  | .config _ => 6
  | .type7 _ => 7
  | .type8 _ => 8
  | .type9 _ => 9
  | .type10 _ => 10
  | .type11 _ => 11
  | .type12 _ => 12
  | .type13 _ => 13
  | .type14 _ => 14
  | .type15 _ => 15

/-- The type codes that are not assigned: 0 and 7 to 15 (R106). -/
def Instr.unassigned (i : Instr) : Bool := i.code == 0 || decide (7 ≤ i.code.toNat)

/-- The fields of a packet. -/
def Instr.pkt : Instr → Pkt
  | .type0 p => p
  | .syn p => p
  | .synAck p => p
  | .data p => p
  | .ack p => p
  | .fin p => p
  | .config p => p
  | .type7 p => p
  | .type8 p => p
  | .type9 p => p
  | .type10 p => p
  | .type11 p => p
  | .type12 p => p
  | .type13 p => p
  | .type14 p => p
  | .type15 p => p

/-- The packet with a given type code; the last arm is code 15 and no other, since the code has 4 bits (R104, R106). -/
def Instr.ofCode (type : BitVec 4) (p : Pkt) : Instr :=
  match type.toNat with
  | 0 => .type0 p
  | 1 => .syn p
  | 2 => .synAck p
  | 3 => .data p
  | 4 => .ack p
  | 5 => .fin p
  | 6 => .config p
  | 7 => .type7 p
  | 8 => .type8 p
  | 9 => .type9 p
  | 10 => .type10 p
  | 11 => .type11 p
  | 12 => .type12 p
  | 13 => .type13 p
  | 14 => .type14 p
  | _ => .type15 p

/-- A header and the bytes after it as a typed packet (R145, R146). -/
def Header.toInstr (h : Header) (trailing : List Byte) : Instr :=
  Instr.ofCode h.type
    { sequence := h.sequence, ack := h.ack, window := h.window, length := h.length, payload := trailing }

/-- The header of a packet. -/
def Instr.header (i : Instr) : Header :=
  { type := i.code, sequence := i.pkt.sequence, ack := i.pkt.ack, window := i.pkt.window, length := i.pkt.length }

/-- HC.PARSE, the decoder (R119, R145): total on any bytes, rejecting by name. -/
def decode (d : Datagram) : Except Malformed Instr :=
  match hcDecode d with
  | .error e => .error e
  | .ok h =>
    let i := h.toInstr (d.drop 8)
    if i.wellFormed then .ok i else .error .lengthMismatch

/-- The datagram of a packet: `HC.ENCODE(...) ++ payload` (R120, R143). -/
def encode (i : Instr) : Datagram := hcEncode i.header ++ i.pkt.payload

/-- The 8 bytes of the header word `H`, byte 0 its most significant byte (R100). -/
def headerWordBytes (w : BitVec 64) : Datagram :=
  [w.extractLsb' 56 8, w.extractLsb' 48 8, w.extractLsb' 40 8, w.extractLsb' 32 8,
   w.extractLsb' 24 8, w.extractLsb' 16 8, w.extractLsb' 8 8, w.extractLsb' 0 8]

/-- How many bytes follow a header on the wire at the least: `length` for DATA and CONFIG (R107), none otherwise. -/
def Header.payloadBytes (h : Header) : Nat :=
  if h.type = 3#4 ∨ h.type = 6#4 then h.length.toNat else 0

/-- The datagram of a word of spec/opcode_table.json: the header word `H` is the low `nbits` bits of `w` (the rest zero), laid
out in network order (R100, R122), and the payload that DATA and CONFIG must have (R107) is bytes of zeros. -/
def tableDatagram (nbits w : Nat) : Datagram :=
  let d := headerWordBytes (BitVec.ofNat 64 (w % 2 ^ nbits))
  match hcDecode d with
  | .ok h => d ++ List.replicate h.payloadBytes 0
  | .error _ => d

/-- The packet the decoder reads from a word of spec/opcode_table.json. -/
def decodeTableWord (nbits w : Nat) : Option Instr :=
  match decode (tableDatagram nbits w) with
  | .ok i => some i
  | .error _ => none

end Sys2Proof
end

