-- ==== Sys2Proof/Machine/State.lean ====
section
/-! DEFINITION. The state of the engine as plain data (spec/10_state.md), the environment's part of it (spec/20_memory.md R70, R75,
spec/10_state.md R33), the operations of spec/00_scope.md R16 as data, and the state after reset (R40, R41). -/

namespace Sys2Proof.Machine

/-! ## Registers of the Initiator unit -/

/-- `INI.state` (R23). -/
inductive Conn where
  | closed | synSent | established
  deriving DecidableEq, Repr

/-- `SND.phase` (R35). -/
inductive Phase where
  | fill | recv | tchk
  deriving DecidableEq, Repr

/-- A valid entry of the pending-packet buffer `SND.pend` (R25). `valid` is membership in the buffer. -/
structure Pending where
  /-- the key -/
  seq : Seq
  /-- the complete datagram as first transmitted -/
  raw : Datagram
  /-- payload byte count, 1..80 -/
  size : BitVec 7
  /-- `start` of the payload byte range `[start, end)` -/
  start : BitVec 32
  /-- `end` of the payload byte range -/
  stop : BitVec 32
  /-- `now` of the latest transmission -/
  sendTime : Time
  /-- acknowledged flag -/
  acked : Bool
  /-- retry count, `CNT_W` bits -/
  retries : Count
  deriving DecidableEq, Repr

/-- The Initiator unit (R21 to R28, R35). -/
structure Initiator where
  /-- `CFG.TARGET` (R21) -/
  target : Seq
  /-- `TC.rto` in ticks (R22); a natural number, so that no arithmetic of R169 overflows (log entry 5) -/
  rto : Nat
  /-- `TC.samp[0..TC.count-1]`, oldest first (R22); `TC.count` is its length -/
  samp : List Time
  /-- `INI.state` (R23) -/
  conn : Conn
  /-- `INI.isn` (R23) -/
  isn : Seq
  /-- `INI.attempts` (R23) -/
  attempts : BitVec 3
  /-- `INI.synTime` (R23) -/
  synTime : Time
  /-- `INI.serverSeq` (R23) -/
  serverSeq : Seq
  /-- `SND.phase` (R35) -/
  phase : Phase
  /-- `SND.base` (R24) -/
  base : Seq
  /-- `SND.nextSeq` (R24) -/
  nextSeq : Seq
  /-- `SND.bytesInFlight` (R24) -/
  bytesInFlight : BitVec 9
  /-- `SND.pend`, a finite map from `seq`, held in ascending `seq` (R25) -/
  pend : List Pending
  /-- `SND.timerRunning` (R26) -/
  timerRunning : Bool
  /-- `SND.timerStart` (R26) -/
  timerStart : Time
  /-- `SND.initialSent` (R27) -/
  initialSent : Count
  /-- `SND.retransmits` (R27) -/
  retransmits : Count
  /-- `SND.totalSent` (R27) -/
  totalSent : Count
  /-- `INI.hsFailed` (R28) -/
  hsFailed : Bool
  /-- `INI.xferDone` (R28) -/
  xferDone : Bool
  /-- `INI.peerDropValid` (R28) -/
  peerDropValid : Bool
  /-- `INI.peerDropPct` (R28) -/
  peerDropPct : Byte
  deriving DecidableEq, Repr

/-! ## Registers of the Responder unit -/

/-- The `state` field of a valid peer record (R30); CLOSED is the absence of a record (spec/90_conflicts.md C3). -/
inductive PeerState where
  | synReceived | established
  deriving DecidableEq, Repr

/-- A valid record of the peer table `RSP.peer` (R30). `valid` is membership in the table. -/
structure Peer where
  /-- the key -/
  addr : Addr
  state : PeerState
  expectedSeq : Seq
  localSeq : Seq
  deriving DecidableEq, Repr

/-- The Responder unit (R29 to R31). -/
structure Responder where
  /-- `CFG.DROP_PCT` (R29) -/
  dropPct : Byte
  /-- `RSP.peer`, a finite map from `addr`, held in ascending `addr` (R30) -/
  peers : List Peer
  /-- `RSP.dropCount` (R31) -/
  dropCount : Count
  /-- `RSP.rejectCount` (R31) -/
  rejectCount : Count
  /-- `RSP.malformedCount` (R31) -/
  malformedCount : Count
  /-- `RSP.oooCount` (R31) -/
  oooCount : Count
  deriving DecidableEq, Repr

/-! ## Outputs of an operation -/

/-- The status identifiers (spec/60_exceptions.md R310). -/
inductive Status where
  | synSentOk | hsWait | hsRetry | hsFailed | hsEstablished
  | sent | windowClosed | finSent | rxNone | acked | ackStale | configLatched | noTimeout | retransmitted
  | synAccepted | peerEstablished | dataInOrder | dataOutOfOrder | dataDropped | finClosed
  | rejected | ignored | malformed
  deriving DecidableEq, Repr

/-- A statistics event (R171, R239). -/
inductive StatEvent where
  /-- `STAT_RTT(rtt)` -/
  | rtt (sample : Time)
  /-- `STAT_FINAL(totalSent, initialSent, retransmits, peerDropValid, peerDropPct)`; the last is `none` while it holds no value -/
  | final (totalSent initialSent retransmits : Count) (peerDropValid : Bool) (peerDropPct : Option Byte)
  deriving DecidableEq, Repr

/-- A delivery event `DELIVER(addr, sequence, payload, in_order)` (R296). -/
structure Delivery where
  addr : Addr
  sequence : Seq
  payload : List Byte
  inOrder : Bool
  deriving DecidableEq, Repr

/-- The result of an `HC.*` operation that the environment invoked (R140, R141, R145). -/
inductive CodecResult where
  | encoded (d : Datagram)
  | decoded (r : Header)
  | parsed (i : Instr)
  /-- `MalformedHeader` of HC.DECODE (R141) or `malformed` of HC.PARSE (R145). -/
  | failed (why : Malformed)
  deriving DecidableEq, Repr

/-- The outputs of the last operation (R7, R12). -/
structure Output where
  /-- the status; `none` for an operation to which R310 gives no identifier (resets, configuration writes, `HC.*`; log entry 12) -/
  status : Option Status
  /-- datagrams the initiator emitted, in order -/
  tx : List Datagram
  /-- datagrams the responder emitted, each with its destination, in order -/
  reply : List (Addr × Datagram)
  /-- statistics events, in order -/
  stats : List StatEvent
  /-- deliveries to the application layer, in order -/
  delivered : List Delivery
  /-- the result of an `HC.*` operation -/
  codec : Option CodecResult
  deriving DecidableEq, Repr

/-! ## The environment: what it invokes and what it carries -/

/-- The operations the environment may invoke (R16), with their inputs; `offer` says whether the datagram at the head of the
unit's receive queue is offered as `rx` (R75, R83). -/
inductive Operation where
  /-- `INI.RESET()` (R350) -/
  | iniReset
  /-- `INI.CFG_WRITE(target)` (R353) -/
  | iniCfgWrite (target : Seq)
  /-- `INI.CONNECT(now, isn)` (R191) -/
  | iniConnect (now : Time) (isn : Seq)
  /-- `INI.HS_STEP(now, rx, isn2)` (R192) -/
  | iniHsStep (now : Time) (offer : Bool) (isn2 : Seq)
  /-- `SND.FILL(now, chunk)` (R221 to R223) -/
  | sndFill (now : Time) (chunk : Nat)
  /-- `SND.RECV(now, rx)` (R226) -/
  | sndRecv (now : Time) (offer : Bool)
  /-- `SND.TCHK(now)` (R232) -/
  | sndTchk (now : Time)
  /-- `RSP.RESET()` (R351) -/
  | rspReset
  /-- `RSP.CFG_WRITE(pct)` (R270) -/
  | rspCfgWrite (pct : Byte)
  /-- `RSP.RX(addr, rx, lseq, loss, ts)` (R260); `addr` and `rx` are the head of the responder's receive queue -/
  | rspRx (lseq : Seq) (loss : Fin 100) (ts : List Byte)
  /-- `HC.ENCODE(type, sequence, ack, window, length)` (R140) -/
  | hcEncode (h : Header)
  /-- `HC.DECODE(d)` (R141) -/
  | hcDecode (d : Datagram)
  /-- `HC.PARSE(d)` (R145) -/
  | hcParse (d : Datagram)
  deriving DecidableEq, Repr

/-- What the environment does outside the units (R33, R70, R75): the channel, and the source payload memory. -/
inductive EnvAction where
  /-- the channel delivers a copy of the k-th datagram in flight to the responder -/
  | deliverRsp (k : Nat)
  /-- the channel delivers a copy of the k-th datagram in flight from the responder, if it is addressed to the initiator -/
  | deliverIni (k : Nat)
  /-- the channel loses the k-th datagram in flight to the responder -/
  | loseRsp (k : Nat)
  /-- the channel loses the k-th datagram in flight from the responder -/
  | loseIni (k : Nat)
  /-- a datagram from anyone else arrives at the responder (R78, R371) -/
  | injectRsp (addr : Addr) (d : Datagram)
  /-- a datagram from anyone else arrives at the initiator (R78, R371) -/
  | injectIni (d : Datagram)
  /-- the environment gives the source payload memory a length (`SRC_LEN`, R10) -/
  | srcResize (len : Nat)
  /-- the environment writes a byte of the source payload memory (R70, R81) -/
  | srcWrite (addr : Nat) (b : Byte)
  deriving DecidableEq, Repr

/-- One thing that happens next. -/
inductive Action where
  | op (o : Operation)
  | env (e : EnvAction)
  deriving DecidableEq, Repr

/-- The receiving operation under way and its inputs: the port at which a parsed packet is consumed. -/
inductive RxOp where
  /-- `INI.HS_STEP` (R192) -/
  | hsStep (now : Time) (isn2 : Seq)
  /-- `SND.RECV` (R226) -/
  | sndRecv (now : Time)
  /-- `RSP.RX` (R260) -/
  | rspRx (addr : Addr) (lseq : Seq) (loss : Fin 100) (ts : List Byte)
  deriving DecidableEq, Repr

/-- Source payload memory contents: the bytes that are not 0, addresses strictly rising (R70; log entry 7). -/
abbrev Memory := List Host.Cell

/-- The engine and its environment. -/
structure State where
  /-- the open parameters (R10); no operation writes them -/
  par : Params
  /-- the Initiator unit -/
  ini : Initiator
  /-- the Responder unit -/
  rsp : Responder
  /-- the outputs of the last operation -/
  out : Output
  /-- the environment's: length of the source payload memory, `SRC_LEN` (R70) -/
  srcLen : Nat
  /-- the environment's: contents of the source payload memory `SRC` (R70) -/
  src : Memory
  /-- the environment's: datagrams waiting at the initiator's receive side (R75) -/
  iniQueue : List Datagram
  /-- the environment's: datagrams waiting at the responder's receive side, with their source addresses (R75) -/
  rspQueue : List (Addr × Datagram)
  /-- the environment's: datagrams in flight that the initiator emitted (R75) -/
  toRsp : List Datagram
  /-- the environment's: datagrams in flight that the responder emitted, with their destinations (R75) -/
  toIni : List (Addr × Datagram)
  /-- the environment's: the latest `now` given to the initiator, for the premise of R13 -/
  lastNow : Time
  /-- the environment's: what it does next, in order (R16, R76) -/
  script : List Action
  /-- the model's: the receiving operation under way -/
  rxOp : RxOp
  /-- the model's: how many free values have been taken (log entry 9) -/
  freeCount : Nat
  deriving DecidableEq, Repr

/-- Why the machine stops with a fault. -/
inductive Fault where
  /-- Raised by SND.FILL: the slice of the chunk runs past the end of the source payload memory. The spec makes a long enough `SRC` a
  launch premise and says that what the hardware does past the end is not in the source (R70, decision D14). Safe. -/
  | srcPastEnd
  deriving DecidableEq, Repr

/-- Why a step has no meaning. -/
inductive Refusal where
  /-- Raised by an arm of `exec` whose instruction has no meaning yet. Safe. -/
  | notModelled (mnemonic : String)
  /-- Raised by every operation with an enabling condition that is invoked while the condition is false: "refused by a model"
  (R16, spec/93_implementation_defined.md section 1). The name is the operation's. Safe. -/
  | notEnabled (operation : String)
  /-- Raised by the initiator's timed operations: `now` is below an earlier `now` or below a stored time (R13, R373). Safe. -/
  | timeBackwards
  /-- Raised by SND.FILL and RSP.RX: a draw outside its range (R15, spec/93_implementation_defined.md section 1). Safe. -/
  | drawOutOfRange
  /-- Raised by RSP.CFG_WRITE: a percentage above 100 (R29, R270). Safe. -/
  | dropPctAbove100
  /-- Raised by INI.CONNECT: the source payload memory is shorter than the launch premise (R70, R353). Safe. -/
  | srcTooShort
  /-- Raised by RSP.RX invoked with no datagram waiting: `rx` is always present (R260). Safe. -/
  | noDatagram
  deriving DecidableEq, Repr

/-- No output. -/
def Output.empty : Output :=
  { status := none, tx := [], reply := [], stats := [], delivered := [], codec := none }

/-- The Initiator unit after INI.RESET (R40); the registers that R40 leaves without a value are zero, and the phase is FILL
(log entry 8). -/
def Initiator.reset (p : Params) : Initiator :=
  { target := 0, rto := Config.rtoInitMs * p.ticksPerMs, samp := [], conn := .closed, isn := 0, attempts := 0, synTime := 0,
    serverSeq := 0, phase := .fill, base := 0, nextSeq := 0, bytesInFlight := 0, pend := [], timerRunning := false,
    timerStart := 0, initialSent := 0, retransmits := 0, totalSent := 0, hsFailed := false, xferDone := false,
    peerDropValid := false, peerDropPct := 0 }

/-- The Responder unit after RSP.RESET (R41). -/
def Responder.reset : Responder :=
  { dropPct := 0, peers := [], dropCount := 0, rejectCount := 0, malformedCount := 0, oooCount := 0 }

/-- Both units after reset, the parameters as the implementation has them, and an environment that has done nothing and has
nothing to do (R40, R41; log entries 3, 8 and 10). -/
def State.reset : State :=
  { par := Config.params, ini := Initiator.reset Config.params, rsp := Responder.reset, out := Output.empty,
    srcLen := 0, src := [], iniQueue := [], rspQueue := [], toRsp := [], toIni := [], lastNow := 0, script := [],
    rxOp := .rspRx 0 0 0 [], freeCount := 0 }

end Sys2Proof.Machine
end

