-- ==== Sys2Proof/Machine/Ops.lean ====
section
/-! DEFINITION. Named operations over the stores and the state: finite maps, the source payload memory (spec/20_memory.md R70), the
output lists (spec/00_scope.md R12), the receive queues (R75), the statistics counters (R27, R31), and the one shared way a
receiving operation consumes a packet (R192, R226, R260). -/

namespace Sys2Proof.Machine

/-- The outcome of an operation. -/
abbrev Result := Host.Outcome State Fault Refusal

/-! ## Finite maps: lists in strictly ascending order of a key (R25, R30: the slot is not observable) -/

/-- The entry with a key. -/
def findBy {α : Type} (key : α → Nat) (k : Nat) (l : List α) : Option α := l.find? (fun x => key x == k)

/-- Write an entry under its key. -/
def putBy {α : Type} (key : α → Nat) (x : α) : List α → List α
  | [] => [x]
  | y :: ys =>
    if key x < key y then x :: y :: ys
    else if key x = key y then x :: ys
    else y :: putBy key x ys

/-- Remove the entry with a key. -/
def eraseBy {α : Type} (key : α → Nat) (k : Nat) (l : List α) : List α := l.filter (fun x => key x != k)

/-- The keys rise strictly: the canonical form of a finite map. -/
def ascending {α : Type} (key : α → Nat) : List α → Bool
  | [] => true
  | [_] => true
  | x :: y :: ys => decide (key x < key y) && ascending key (y :: ys)

/-- The key of a pending entry (R25). -/
def Pending.key (e : Pending) : Nat := e.seq.toNat

/-- The key of a peer record (R30). -/
def Peer.key (r : Peer) : Nat := r.addr

/-! ## The source payload memory (R70) -/

/-- What an address reads as that is not listed (log entry 7). -/
def Memory.unlisted : Byte := 0

/-- Read one byte. -/
def Memory.read (m : Memory) (a : Nat) : Byte :=
  match findBy Prod.fst a m with
  | some c => c.2
  | none => Memory.unlisted

/-- Write one byte, keeping the canonical form. -/
def Memory.write (m : Memory) (a : Nat) (b : Byte) : Memory :=
  if b = Memory.unlisted then eraseBy Prod.fst a m else putBy Prod.fst (a, b) m

/-- Keep the bytes below a length. -/
def Memory.truncate (m : Memory) (len : Nat) : Memory := m.filter (fun c => decide (c.1 < len))

/-- `MemRead(SRC, start, n)` (R12): the bytes `start .. start + n`. -/
def Memory.slice (m : Memory) (start : Nat) : Nat → List Byte
  | 0 => []
  | n + 1 => m.read start :: Memory.slice m (start + 1) n

/-- The canonical form: addresses strictly rising, no entry equal to what an unlisted address reads as. -/
def Memory.wf (m : Memory) : Bool := ascending Prod.fst m && m.all (fun c => c.2 != Memory.unlisted)

/-- `SRC` is canonical and lies within its length. -/
def State.srcWf (s : State) : Bool := s.src.wf && s.src.all (fun c => decide (c.1 < s.srcLen))

/-! ## Outputs and queues -/

/-- An operation begins: its output lists are empty. -/
def State.begin (s : State) : State := { s with out := Output.empty }

/-- The Initiator unit as an operation leaves it. -/
def State.setIni (s : State) (i : Initiator) : State := { s with ini := i }

/-- The Responder unit as an operation leaves it. -/
def State.setRsp (s : State) (r : Responder) : State := { s with rsp := r }

/-- `status <- S` (R12). -/
def State.setStatus (s : State) (x : Status) : State := { s with out := { s.out with status := some x } }

/-- `emit_tx(bytes)` of the initiator (R12): appended to the operation's list and handed to the channel (R75). -/
def State.emitTx (s : State) (d : Datagram) : State :=
  { s with out := { s.out with tx := s.out.tx ++ [d] }, toRsp := s.toRsp ++ [d] }

/-- `emit_tx(addr, bytes)` of the responder (R12, R75). -/
def State.emitReply (s : State) (addr : Addr) (d : Datagram) : State :=
  { s with out := { s.out with reply := s.out.reply ++ [(addr, d)] }, toIni := s.toIni ++ [(addr, d)] }

/-- `emit_stat(...)` (R12). -/
def State.emitStat (s : State) (e : StatEvent) : State :=
  { s with out := { s.out with stats := s.out.stats ++ [e] } }

/-- `emit_deliver(...)` (R12). -/
def State.emitDeliver (s : State) (e : Delivery) : State :=
  { s with out := { s.out with delivered := s.out.delivered ++ [e] } }

/-- The result of an `HC.*` operation. -/
def State.setCodec (s : State) (c : CodecResult) : State := { s with out := { s.out with codec := some c } }

/-- The datagram offered to the initiator is consumed (R75). -/
def State.popIni (s : State) : State := { s with iniQueue := s.iniQueue.tail }

/-- The datagram offered to the responder is consumed (R75). -/
def State.popRsp (s : State) : State := { s with rspQueue := s.rspQueue.tail }

/-- The unit has seen this `now` (R13). -/
def State.touch (s : State) (now : Time) : State := { s with lastNow := now }

/-! ## Statistics counters (R27, R31): 32 bits, wrapping -/

/-- One DATA packet sent for the first time (R222, R234). -/
def Initiator.countInitial (i : Initiator) : Initiator :=
  { i with initialSent := i.initialSent + 1, totalSent := i.totalSent + 1 }

/-- One DATA packet retransmitted (R232, R234). -/
def Initiator.countRetransmit (i : Initiator) : Initiator :=
  { i with retransmits := i.retransmits + 1, totalSent := i.totalSent + 1 }

/-- Category (d): dropped by the loss policy (R291, R315). -/
def Responder.countDrop (r : Responder) : Responder := { r with dropCount := r.dropCount + 1 }

/-- Category (b): rejected at protocol level (R313, R315). -/
def Responder.countReject (r : Responder) : Responder := { r with rejectCount := r.rejectCount + 1 }

/-- Malformed datagram (R311, R315). -/
def Responder.countMalformed (r : Responder) : Responder := { r with malformedCount := r.malformedCount + 1 }

/-- DATA accepted out of order (R293, R297). -/
def Responder.countOutOfOrder (r : Responder) : Responder := { r with oooCount := r.oooCount + 1 }

/-! ## The peer table (R30, R82) -/

/-- The valid record with an address, or none (R82, R260). -/
def Responder.find (r : Responder) (addr : Addr) : Option Peer := findBy Peer.key addr r.peers

/-- Write a record. -/
def Responder.put (r : Responder) (p : Peer) : Responder := { r with peers := putBy Peer.key p r.peers }

/-- `r.valid <- 0`: free a record (R265). -/
def Responder.free (r : Responder) (addr : Addr) : Responder := { r with peers := eraseBy Peer.key addr r.peers }

/-- Every record is valid: no room for a new peer (R262, R269). An empty table always has room, since `MAX_PEERS >= 1` (R10). -/
def Responder.full (r : Responder) (p : Params) : Bool :=
  !r.peers.isEmpty && (match p.maxPeers with
    | none => false
    | some m => decide (m ≤ r.peers.length))

/-! ## Guards and the shared receive -/

/-- An operation of the initiator that reads time: its enabling condition (R16), then the premise that `now` does not decrease (R13),
then the operation itself on empty outputs. -/
def timed (operation : String) (enabled : Bool) (now : Time) (s : State) (k : State → Result) : Result :=
  if enabled then
    if s.lastNow ≤ now then k (s.begin.touch now) else .refused .timeBackwards
  else .refused (.notEnabled operation)

/-- How a consumed datagram is handled, once by each receiving operation. -/
structure Handlers where
  /-- in `INI.HS_STEP` (R192) -/
  hs : State → State
  /-- in `SND.RECV` (R226), at `now` -/
  snd : Time → State → Result
  /-- in `RSP.RX` (R260), with `addr`, `lseq`, `loss`, `ts` -/
  rsp : Addr → Seq → Fin 100 → List Byte → State → Result

end Sys2Proof.Machine
end

