-- ==== Sys2Proof/Machine/Channel.lean ====
section
/-! DEFINITION. The environment's part: the channel, "a medium that reorders, drops, and duplicates" (spec/20_memory.md R75, R78), and the
source payload memory (R70). No unit state changes here. -/

namespace Sys2Proof.Machine

/-- The channel delivers a copy of a datagram in flight to the responder, which sees the initiator's address; the datagram stays in
flight and may be delivered again (R75). -/
def deliverRsp (k : Nat) (s : State) : State :=
  match s.toRsp[k]? with
  | some d => { s with rspQueue := s.rspQueue ++ [(s.par.iniAddr, d)] }
  | none => s

/-- The channel delivers a copy of a datagram in flight to the initiator, if it is addressed there (R75). -/
def deliverIni (k : Nat) (s : State) : State :=
  match s.toIni[k]? with
  | some (addr, d) => if addr = s.par.iniAddr then { s with iniQueue := s.iniQueue ++ [d] } else s
  | none => s

/-- The environment gives the source payload memory a length; the bytes past it cease to exist (R70). -/
def srcResize (len : Nat) (s : State) : State := { s with srcLen := len, src := s.src.truncate len }

/-- The environment writes a byte of the source payload memory; past the end there is none to write (R70, R81). -/
def srcWrite (addr : Nat) (b : Byte) (s : State) : State :=
  if addr < s.srcLen then { s with src := s.src.write addr b } else s

/-- What the environment does outside the units (log entry 10). -/
def runEnv (e : EnvAction) (s : State) : State :=
  match e with
  | .deliverRsp k => deliverRsp k s
  | .deliverIni k => deliverIni k s
  | .loseRsp k => { s with toRsp := s.toRsp.eraseIdx k }
  | .loseIni k => { s with toIni := s.toIni.eraseIdx k }
  | .injectRsp addr d => { s with rspQueue := s.rspQueue ++ [(addr, d)] }
  | .injectIni d => { s with iniQueue := s.iniQueue ++ [d] }
  | .srcResize len => srcResize len s
  | .srcWrite addr b => srcWrite addr b s

end Sys2Proof.Machine
end

