-- ==== Sys2Proof/Machine/Flags.lean ====
section
/-! DEFINITION. The 1-bit status elements (spec/10_state.md R36) and how each is set and cleared: the retransmission timer (R26), the outcome
flags and the CONFIG latch (R28), the acknowledged flag (R25). The engine has no arithmetic condition codes (R36). -/

namespace Sys2Proof.Machine

/-- Start the timer if it is not running (R222). -/
def Initiator.startTimer (i : Initiator) (now : Time) : Initiator :=
  if i.timerRunning then i else { i with timerRunning := true, timerStart := now }

/-- The timer after an ACK (R231): restarted or stopped when the base advanced, else left as it is. -/
def Initiator.timerAfterAck (i : Initiator) (oldBase : Seq) (now : Time) : Initiator :=
  if oldBase < i.base then
    if i.pend.isEmpty then { i with timerRunning := false } else { i with timerStart := now }
  else i

/-- The timer is restarted (R232). -/
def Initiator.restartTimer (i : Initiator) (now : Time) : Initiator := { i with timerStart := now }

/-- The window, the buffer and the timer are brought to their session-start state (R191, R195). -/
def Initiator.clearWindow (i : Initiator) : Initiator :=
  { i with base := 0, nextSeq := 0, bytesInFlight := 0, pend := [], timerRunning := false }

/-- The outcome flags and the latch are cleared (R28, R191). -/
def Initiator.clearFlags (i : Initiator) : Initiator :=
  { i with hsFailed := false, xferDone := false, peerDropValid := false }

/-- The drop rate learnt from a CONFIG packet is latched (R228). -/
def Initiator.latchDrop (i : Initiator) (pct : Byte) : Initiator := { i with peerDropPct := pct, peerDropValid := true }

/-- `INI.peerDropPct`, which holds no value while `INI.peerDropValid` is 0 (R28). -/
def Initiator.drop (i : Initiator) : Option Byte := if i.peerDropValid then some i.peerDropPct else none

/-- An ACK with this `ack` field newly acknowledges the entry (R227). -/
def Pending.ackable (e : Pending) (ack : Seq) : Bool := !e.acked && decide (e.seq < ack)

/-- `e.acked <- 1` for the entries an ACK newly acknowledges (R227). -/
def Pending.markAcked (ack : Seq) (e : Pending) : Pending := if e.ackable ack then { e with acked := true } else e

end Sys2Proof.Machine
end

