-- ==== Sys2Proof/Machine/Operands.lean ====
section
/-! DEFINITION. Operands: the draws and their ranges (spec/00_scope.md R15), the payload slice and chunk size (spec/43_sliding_window_sender.md
R224, R225), and the fields of every packet the engine originates (spec/30_encoding.md R108 to R117). -/

namespace Sys2Proof.Machine

/-! ## Draws (R15) -/

/-- `chunk in 40..80`. -/
def chunkInRange (chunk : Nat) : Bool := decide (Config.minChunk ≤ chunk) && decide (chunk ≤ Config.maxChunk)

/-- `ts` is `ACK_TS_LEN` bytes. -/
def tsInRange (p : Params) (ts : List Byte) : Bool := ts.length == p.ackTsLen.toNat

/-! ## Chunk and slice (R224, R225) -/

/-- The remaining window capacity, `400 - bytesInFlight`. -/
def Initiator.room (i : Initiator) : Nat := Config.windowBytes - i.bytesInFlight.toNat

/-- `size = min(chunk, 400 - bytesInFlight)` (R224). -/
def Initiator.chunkSize (i : Initiator) (chunk : Nat) : Nat := min chunk i.room

/-- `start = 40 * nextSeq` (R225). -/
def Initiator.sliceStart (i : Initiator) : Nat := Config.sliceStride * i.nextSeq.toNat

/-- The launch premise on the source payload memory (R70, R353): `SRC_LEN >= 40 * (TARGET - 1) + 80` when `TARGET >= 1`. -/
def launchPremise (srcLen : Nat) (target : Seq) : Bool :=
  target == 0 || decide (Config.sliceStride * (target.toNat - 1) + Config.maxChunk ≤ srcLen)

/-! ## Originated packets. Unassigned fields are 0 (R117), `window` is 400 (R116), `length` is the payload byte count (R120). -/

/-- A packet with the field values an originator gives it (R116, R117, R120). -/
def originated (sequence ack : Seq) (payload : List Byte) : Pkt :=
  { sequence := sequence, ack := ack, window := Config.advertisedWindow, length := BitVec.ofNat 8 payload.length,
    payload := payload }

/-- SYN (R108). -/
def mkSyn (isn : Seq) : Instr := .syn (originated isn 0 [])

/-- SYN_ACK (R109). -/
def mkSynAck (localSeq clientSeq : Seq) : Instr := .synAck (originated localSeq (clientSeq + 1) [])

/-- Handshake ACK (R110). -/
def mkHandshakeAck (serverSeq : Seq) : Instr := .ack (originated 0 (serverSeq + 1) [])

/-- CONFIG (R111). -/
def mkConfig (dropPct : Byte) : Instr := .config (originated 0 0 [dropPct])

/-- DATA (R112). -/
def mkData (nextSeq : Seq) (payload : List Byte) : Instr := .data (originated nextSeq 0 payload)

/-- Cumulative ACK (R113). -/
def mkCumulativeAck (expectedSeq : Seq) (ts : List Byte) : Instr := .ack (originated 0 expectedSeq ts)

/-- FIN (R114). -/
def mkFin (nextSeq : Seq) : Instr := .fin (originated nextSeq 0 [])

/-- FIN acknowledgment (R115). -/
def mkFinAck (senderSeq : Seq) : Instr := .ack (originated 0 (senderSeq + 1) [])

end Sys2Proof.Machine
end

