-- ==== Sys2Proof/Machine/Timeout.lean ====
section
/-! DEFINITION. The Timeout Controller (spec/41_timeout_controller.md R160 to R169): the TC.* operations, over the Initiator unit. -/

namespace Sys2Proof.Machine

/-- `TC.count` (R22). -/
def Initiator.count (i : Initiator) : Nat := i.samp.length

/-- TC.INIT (R160). -/
def tcInit (p : Params) (i : Initiator) : Initiator :=
  { i with rto := Config.rtoInitMs * p.ticksPerMs, samp := [] }

/-- TC.RECORD_SAMPLE (R161): append, dropping the oldest beyond ten. -/
def tcRecordSample (rtt : Time) (i : Initiator) : Initiator :=
  if i.count < Config.rttDepth then { i with samp := i.samp ++ [rtt] }
  else { i with samp := i.samp.tail ++ [rtt] }

/-- Insert a sample into an ascending list. -/
def insertAscending (x : Time) : List Time → List Time
  | [] => [x]
  | y :: ys => if x ≤ y then x :: y :: ys else y :: insertAscending x ys

/-- Samples sorted ascending (R162). -/
def sortAscending : List Time → List Time
  | [] => []
  | x :: xs => insertAscending x (sortAscending xs)

/-- The element at index 5, zero-based, of the ascending sort (R162, spec/90_conflicts.md C1). -/
def medianSample (samp : List Time) : Time := (sortAscending samp).getD Config.medianIndex 0

/-- TC.RECOMPUTE (R162). -/
def tcRecompute (i : Initiator) : Initiator :=
  if i.count = Config.rttDepth then { i with rto := Config.rtoMult * (medianSample i.samp).toNat } else i

/-- TC.CURRENT_TIMEOUT (R163). -/
def tcCurrentTimeout (i : Initiator) : Nat := i.rto

/-- TC.BACKOFF (R164). -/
def tcBackoff (i : Initiator) : Initiator := { i with rto := Config.backoffFactor * i.rto }

/-- TC.EXPIRED (R165): strictly more than the current timeout has passed. Its operands satisfy `start ≤ now`. -/
def tcExpired (i : Initiator) (start now : Time) : Bool :=
  decide (tcCurrentTimeout i < now.toNat - start.toNat)

end Sys2Proof.Machine
end

