-- ==== Sys2Proof/Machine/Handshake.lean ====
section
/-! DEFINITION. The Connection State Machine, initiator side (spec/42_initiator_connection.md R190 to R200): INI.CONNECT, and the arms of
INI.HS_STEP. -/

namespace Sys2Proof.Machine

/-- The Initiator unit after INI.CONNECT (R191). -/
def Initiator.connect (i : Initiator) (p : Params) (now : Time) (isn : Seq) : Initiator :=
  { (tcInit p i).clearWindow.clearFlags with
    initialSent := 0, retransmits := 0, totalSent := 0, isn := isn, attempts := 1, synTime := now, conn := .synSent }

/-- INI.CONNECT (R191); the launch premise on `SRC` is checked here (R70, R353; log entry 11). -/
def opConnect (now : Time) (isn : Seq) (s : State) : Result :=
  timed "INI.CONNECT" (s.ini.conn == .closed) now s fun s =>
    if launchPremise s.srcLen s.ini.target then
      .next (((s.setIni (s.ini.connect s.par now isn)).emitTx (encode (mkSyn isn))).setStatus .synSentOk)
    else .refused .srcTooShort

/-- Expiry with attempts left (R193). -/
def hsRetry (now : Time) (isn2 : Seq) (s : State) : State :=
  ((s.setIni { tcBackoff s.ini with attempts := s.ini.attempts + 1, isn := isn2, synTime := now }).emitTx
    (encode (mkSyn isn2))).setStatus .hsRetry

/-- Expiry of the fifth attempt (R194): `HandshakeFailed`. The timeout register becomes a free value (log entry 9). -/
def hsFail (s : State) : State :=
  { (s.setIni { s.ini with conn := .closed, hsFailed := true, rto := Config.freeRto s.freeCount }).setStatus .hsFailed with
    freeCount := s.freeCount + 1 }

/-- INI.HS_STEP (R192). `rx` is what a consumed datagram does, `none` when none is offered; at an expired step it is not
consumed (R318). -/
def hsStep (now : Time) (isn2 : Seq) (rx : Option (State → State)) (s : State) : Result :=
  timed "INI.HS_STEP" (s.ini.conn == .synSent) now s fun s =>
    if now < s.ini.synTime then .refused .timeBackwards
    else if tcExpired s.ini s.ini.synTime now then
      if s.ini.attempts.toNat < Config.hsMaxAttempts then .next (hsRetry now isn2 s) else .next (hsFail s)
    else
      match rx with
      | none => .next (s.setStatus .hsWait)
      | some handle => .next (handle s.popIni)

/-- The Initiator unit on entering ESTABLISHED (R195). -/
def Initiator.establish (i : Initiator) (serverSeq : Seq) : Initiator :=
  { i.clearWindow with serverSeq := serverSeq, phase := .fill, conn := .established }

/-- A SYN_ACK in INI.HS_STEP: accepted when it acknowledges the latest SYN (R195), else ignored (R196). -/
def hsSynAck (sequence ack : Seq) (s : State) : State :=
  if ack = s.ini.isn + 1 then
    ((s.setIni (s.ini.establish sequence)).emitTx (encode (mkHandshakeAck sequence))).setStatus .hsEstablished
  else s.setStatus .ignored

end Sys2Proof.Machine
end

