-- ==== Sys2Proof/Machine/Responder.lean ====
section
/-! DEFINITION. The Connection State Machine, responder side (spec/44_responder_connection.md R260 to R273): the arms of RSP.RX but DATA. -/

namespace Sys2Proof.Machine

/-- A datagram rejected at protocol level (R313): counted, nothing else. -/
def rspReject (s : State) : State := (s.setRsp s.rsp.countReject).setStatus .rejected

/-- A malformed datagram (R260, R311): counted, nothing else. -/
def rspMalformed (s : State) : State := (s.setRsp s.rsp.countMalformed).setStatus .malformed

/-- SYN arm (R262), and the full table (R269). -/
def rspSyn (addr : Addr) (lseq clientSeq : Seq) (s : State) : State :=
  if (s.rsp.find addr).isNone && s.rsp.full s.par then rspReject s
  else
    ((s.setRsp (s.rsp.put { addr := addr, state := .synReceived, expectedSeq := 0, localSeq := lseq })).emitReply addr
      (encode (mkSynAck lseq clientSeq))).setStatus .synAccepted

/-- ACK arms: in SYN_RECEIVED (R263), with no record and in ESTABLISHED (R264). -/
def rspAck (addr : Addr) (s : State) : State :=
  match s.rsp.find addr with
  | none => rspReject s
  | some r =>
    match r.state with
    | .synReceived =>
      ((s.setRsp (s.rsp.put { r with state := .established, expectedSeq := 0 })).emitReply addr
        (encode (mkConfig s.rsp.dropPct))).setStatus .peerEstablished
    | .established => s.setStatus .ignored

/-- FIN arms: with a record (R265), without (R266). -/
def rspFin (addr : Addr) (senderSeq : Seq) (s : State) : State :=
  match s.rsp.find addr with
  | none => rspReject s
  | some _ => ((s.setRsp (s.rsp.free addr)).emitReply addr (encode (mkFinAck senderSeq))).setStatus .finClosed

/-- RSP.RX (R260): the datagram is always present and always consumed. -/
def rspRx (rx : Option (State → Result)) (s : State) : Result :=
  match rx with
  | none => .refused .noDatagram
  | some handle => handle s.begin.popRsp

end Sys2Proof.Machine
end

