-- ==== Sys2Proof/Machine/Receiver.lean ====
section
/-! DEFINITION. The Ordered Receiver / Acknowledger (spec/45_ordered_receiver.md R290 to R300): the DATA arm of RSP.RX. -/

namespace Sys2Proof.Machine

/-- The cumulative ACK (R294), after the update of `expectedSeq`. -/
def sendCumulativeAck (addr : Addr) (expectedSeq : Seq) (ts : List Byte) (s : State) : State :=
  s.emitReply addr (encode (mkCumulativeAck expectedSeq ts))

/-- A DATA packet that passes the loss policy: in order (R292) or out of order (R293), delivered (R296) and acknowledged (R294). -/
def acceptData (r : Peer) (sequence : Seq) (payload : List Byte) (ts : List Byte) (s : State) : State :=
  if sequence = r.expectedSeq then
    (sendCumulativeAck r.addr (r.expectedSeq + 1) ts
      ((s.setRsp (s.rsp.put { r with expectedSeq := r.expectedSeq + 1 })).emitDeliver
        { addr := r.addr, sequence := sequence, payload := payload, inOrder := true })).setStatus .dataInOrder
  else
    (sendCumulativeAck r.addr r.expectedSeq ts
      ((s.setRsp s.rsp.countOutOfOrder).emitDeliver
        { addr := r.addr, sequence := sequence, payload := payload, inOrder := false })).setStatus .dataOutOfOrder

/-- DATA arms: rejected unless ESTABLISHED (R267), then the loss policy (R291), then the sequence number (R290). `ts` is read only
when a cumulative ACK is sent (R260), and its length is checked there. -/
def rspData (addr : Addr) (sequence : Seq) (payload : List Byte) (loss : Fin 100) (ts : List Byte) (s : State) : Result :=
  match s.rsp.find addr with
  | none => .next (rspReject s)
  | some r =>
    match r.state with
    | .synReceived => .next (rspReject s)
    | .established =>
      if loss.val < s.rsp.dropPct.toNat then .next ((s.setRsp s.rsp.countDrop).setStatus .dataDropped)
      else if tsInRange s.par ts then .next (acceptData r sequence payload ts s)
      else .refused .drawOutOfRange

end Sys2Proof.Machine
end

