-- ==== Sys2Proof/Machine/Sender.lean ====
section
/-! DEFINITION. The Sliding-Window Sender (spec/43_sliding_window_sender.md R220 to R240): SND.FILL, SND.RECV and its arms, SND.TCHK. -/

namespace Sys2Proof.Machine

/-- A sender operation is enabled in its phase while ESTABLISHED (R220). -/
def Initiator.inPhase (i : Initiator) (p : Phase) : Bool := i.conn == .established && i.phase == p

/-! ## SND.FILL -/

/-- Arm "transfer complete" (R221). -/
def fillFin (s : State) : State :=
  (((s.emitTx (encode (mkFin s.ini.nextSeq))).emitStat
    (.final s.ini.totalSent s.ini.initialSent s.ini.retransmits s.ini.peerDropValid s.ini.drop)).setIni
      { s.ini with conn := .closed, xferDone := true }).setStatus .finSent

/-- The pending entry of a packet sent for the first time (R222). -/
def newPending (i : Initiator) (now : Time) (payload : List Byte) : Pending :=
  { seq := i.nextSeq, raw := encode (mkData i.nextSeq payload), size := BitVec.ofNat 7 payload.length,
    start := BitVec.ofNat 32 i.sliceStart, stop := BitVec.ofNat 32 (i.sliceStart + payload.length),
    sendTime := now, acked := false, retries := 0 }

/-- The Initiator unit after one packet is sent for the first time (R222). -/
def Initiator.sendNew (i : Initiator) (now : Time) (payload : List Byte) : Initiator :=
  ({ i.countInitial with
      pend := putBy Pending.key (newPending i now payload) i.pend
      nextSeq := i.nextSeq + 1
      bytesInFlight := i.bytesInFlight + BitVec.ofNat 9 payload.length } : Initiator).startTimer now

/-- Arm "send one packet" (R222, R224, R225). -/
def fillSend (now : Time) (chunk : Nat) (s : State) : Result :=
  if chunkInRange chunk then
    let size := s.ini.chunkSize chunk
    if s.ini.sliceStart + size ≤ s.srcLen then
      let payload := s.src.slice s.ini.sliceStart size
      .next (((s.setIni (s.ini.sendNew now payload)).emitTx (encode (mkData s.ini.nextSeq payload))).setStatus .sent)
    else .fault .srcPastEnd
  else .refused .drawOutOfRange

/-- Arm "window closed" (R223). -/
def fillClosed (s : State) : State := (s.setIni { s.ini with phase := .recv }).setStatus .windowClosed

/-- SND.FILL (R221 to R223), its arms in the order of R318. -/
def opFill (now : Time) (chunk : Nat) (s : State) : Result :=
  timed "SND.FILL" (s.ini.inPhase .fill) now s fun s =>
    if s.ini.base = s.ini.target then .next (fillFin s)
    else if s.ini.nextSeq < s.ini.target ∧ s.ini.bytesInFlight.toNat < Config.windowBytes then fillSend now chunk s
    else .next (fillClosed s)

/-! ## SND.RECV -/

/-- SND.RECV (R226): the phase advances to TCHK in every arm. -/
def sndRecv (now : Time) (rx : Option (Time → State → Result)) (s : State) : Result :=
  timed "SND.RECV" (s.ini.inPhase .recv) now s fun s =>
    let s := s.setIni { s.ini with phase := .tchk }
    match rx with
    | none => .next (s.setStatus .rxNone)
    | some handle => handle now s.popIni

/-- The entries an ACK newly acknowledges, in ascending sequence (R227). -/
def Initiator.newlyAcked (i : Initiator) (ack : Seq) : List Pending := i.pend.filter (fun e => e.ackable ack)

/-- The samples of an ACK, one for each newly acknowledged packet, from its latest transmission (R168, R227). -/
def Initiator.ackSamples (i : Initiator) (ack : Seq) (now : Time) : List Time :=
  (i.newlyAcked ack).map (fun e => now - e.sendTime)

/-- Release the bytes of acknowledged packets (R227, R235). -/
def releaseBytes (inFlight : BitVec 9) : List Pending → BitVec 9
  | [] => inFlight
  | e :: es => releaseBytes (inFlight - e.size.setWidth 9) es

/-- Record samples in order (R227). -/
def recordAll : List Time → Initiator → Initiator
  | [], i => i
  | rtt :: rest, i => recordAll rest (tcRecordSample rtt i)

/-- Advance the base past the acknowledged entries that start at it, evicting them (R230). The fuel is the number of entries: each
round removes one. -/
def advanceBase : Nat → Initiator → Initiator
  | 0, i => i
  | n + 1, i =>
    match i.pend.find? (fun e => e.seq == i.base && e.acked) with
    | none => i
    | some _ => advanceBase n { i with pend := eraseBy Pending.key i.base.toNat i.pend, base := i.base + 1 }

/-- The Initiator unit after the samples, the marks and the released bytes of an ACK (R227). -/
def Initiator.markAck (i : Initiator) (ack : Seq) (now : Time) : Initiator :=
  let j := { recordAll (i.ackSamples ack now) i with
              pend := i.pend.map (Pending.markAcked ack)
              bytesInFlight := releaseBytes i.bytesInFlight (i.newlyAcked ack) }
  if (i.newlyAcked ack).isEmpty then j else tcRecompute j

/-- The Initiator unit after ACK processing (R227, R230, R231). -/
def Initiator.processAck (i : Initiator) (ack : Seq) (now : Time) : Initiator :=
  (advanceBase i.pend.length (i.markAck ack now)).timerAfterAck i.base now

/-- Emit one `STAT_RTT` for each sample, in order (R171, R227). -/
def emitSamples : List Time → State → State
  | [], s => s
  | rtt :: rest, s => emitSamples rest (s.emitStat (.rtt rtt))

/-- ACK processing (R227); an entry sent after `now` is outside the premise of R13. -/
def sndAckPositive (ack : Seq) (now : Time) (s : State) : Result :=
  if (s.ini.newlyAcked ack).all (fun e => decide (e.sendTime ≤ now)) then
    .next ((emitSamples (s.ini.ackSamples ack now) (s.setIni (s.ini.processAck ack now))).setStatus
      (if (s.ini.newlyAcked ack).isEmpty then .ackStale else .acked))
  else .refused .timeBackwards

/-- An ACK in SND.RECV: processed when its `ack` field is above 0 (R227), else ignored (R229, R237). -/
def sndAck (ack : Seq) (now : Time) (s : State) : Result :=
  if 0 < ack then sndAckPositive ack now s else .next (s.setStatus .ignored)

/-- A CONFIG in SND.RECV: the drop rate is latched if the packet carries a byte (R228). -/
def sndConfig (p : Pkt) (s : State) : State :=
  match p.payload with
  | pct :: _ => if 1 ≤ p.length.toNat then (s.setIni (s.ini.latchDrop pct)).setStatus .configLatched else s.setStatus .ignored
  | [] => s.setStatus .ignored

/-! ## SND.TCHK -/

/-- A still unacknowledged entry after its retransmission (R232, R233). -/
def Pending.retransmit (now : Time) (e : Pending) : Pending :=
  if e.acked then e else { e with sendTime := now, retries := e.retries + 1 }

/-- The entries a timeout retransmits, in ascending sequence (R232). -/
def Initiator.unacked (i : Initiator) : List Pending := i.pend.filter (fun e => !e.acked)

/-- Count one retransmission for each entry (R232, R234). -/
def countRetransmits : List Pending → Initiator → Initiator
  | [], i => i
  | _ :: es, i => countRetransmits es i.countRetransmit

/-- Emit the stored bytes of each entry, in order (R232, R233). -/
def emitRaw : List Pending → State → State
  | [], s => s
  | e :: es, s => emitRaw es (s.emitTx e.raw)

/-- The Initiator unit after a retransmission timeout (R232). -/
def Initiator.retransmitAll (i : Initiator) (now : Time) : Initiator :=
  { countRetransmits i.unacked i with pend := i.pend.map (Pending.retransmit now) }.restartTimer now

/-- SND.TCHK (R232); a timer started after `now` is outside the premise of R13. -/
def opTchk (now : Time) (s : State) : Result :=
  timed "SND.TCHK" (s.ini.inPhase .tchk) now s fun s =>
    if s.ini.timerRunning = true ∧ now < s.ini.timerStart then .refused .timeBackwards
    else if s.ini.timerRunning = true ∧ tcExpired s.ini s.ini.timerStart now = true then
      .next ((emitRaw s.ini.unacked (s.setIni { s.ini.retransmitAll now with phase := .fill })).setStatus .retransmitted)
    else .next ((s.setIni { s.ini with phase := .fill }).setStatus .noTimeout)

end Sys2Proof.Machine
end

