-- ==== Sys2Proof/Machine/Packets.lean ====
section
/-! DEFINITION. What each packet of spec/opcode_table.json does to the unit that consumes it (its `rx_rules`): one meaning per type code, over
the shared receive. The packet is consumed by the receiving operation that `State.rxOp` holds. -/

namespace Sys2Proof.Machine

/-- The receiving operation under way, with what a consumed datagram does in it, or with no datagram. -/
def receive (rx : Option Handlers) (s : State) : Result :=
  match s.rxOp with
  | .hsStep now isn2 => hsStep now isn2 (rx.map Handlers.hs) s
  | .sndRecv now => sndRecv now (rx.map Handlers.snd) s
  | .rspRx addr lseq loss ts => rspRx (rx.map (fun h => h.rsp addr lseq loss ts)) s

/-- Consumed and ignored by every receiving operation (R196, R229, R268). -/
def ignored : Handlers :=
  { hs := fun s => s.setStatus .ignored
    snd := fun _ s => .next (s.setStatus .ignored)
    rsp := fun _ _ _ _ s => .next (s.setStatus .ignored) }

/-- Malformed at every receiving operation (R311): counted by the responder only (decision D43). -/
def malformed : Handlers :=
  { hs := fun s => s.setStatus .malformed
    snd := fun _ s => .next (s.setStatus .malformed)
    rsp := fun _ _ _ _ s => .next (rspMalformed s) }

/-- Type code 0: R106, R196, R229, R268. -/
def execType0 (_p : Pkt) (s : State) : Result := receive (some ignored) s

/-- SYN: R262 and R269 at the responder, R196 and R229 at the initiator. -/
def execSyn (p : Pkt) (s : State) : Result :=
  receive (some { ignored with rsp := fun addr lseq _ _ s => .next (rspSyn addr lseq p.sequence s) }) s

/-- SYN_ACK: R195 and R196 in the handshake, R229 in the transfer, R268 at the responder. -/
def execSynAck (p : Pkt) (s : State) : Result :=
  receive (some { ignored with hs := hsSynAck p.sequence p.ack }) s

/-- DATA: R267 and R290 at the responder, R196 and R229 at the initiator. -/
def execData (p : Pkt) (s : State) : Result :=
  receive (some { ignored with rsp := fun addr _ loss ts s => rspData addr p.sequence p.payload loss ts s }) s

/-- ACK: R227, R229 in the transfer, R263, R264 at the responder, R196 in the handshake. -/
def execAck (p : Pkt) (s : State) : Result :=
  receive (some { ignored with snd := sndAck p.ack, rsp := fun addr _ _ _ s => .next (rspAck addr s) }) s

/-- FIN: R265, R266 at the responder, R196 and R229 at the initiator. -/
def execFin (p : Pkt) (s : State) : Result :=
  receive (some { ignored with rsp := fun addr _ _ _ s => .next (rspFin addr p.sequence s) }) s

/-- CONFIG: R228 in the transfer, R196 in the handshake, R268 at the responder. -/
def execConfig (p : Pkt) (s : State) : Result :=
  receive (some { ignored with snd := fun _ s => .next (sndConfig p s) }) s

/-- Type code 7: R106, R196, R229, R268. -/
def execType7 (_p : Pkt) (s : State) : Result := receive (some ignored) s

/-- Type code 8: R106, R196, R229, R268. -/
def execType8 (_p : Pkt) (s : State) : Result := receive (some ignored) s

/-- Type code 9: R106, R196, R229, R268. -/
def execType9 (_p : Pkt) (s : State) : Result := receive (some ignored) s

/-- Type code 10: R106, R196, R229, R268. -/
def execType10 (_p : Pkt) (s : State) : Result := receive (some ignored) s

/-- Type code 11: R106, R196, R229, R268. -/
def execType11 (_p : Pkt) (s : State) : Result := receive (some ignored) s

/-- Type code 12: R106, R196, R229, R268. -/
def execType12 (_p : Pkt) (s : State) : Result := receive (some ignored) s

/-- Type code 13: R106, R196, R229, R268. -/
def execType13 (_p : Pkt) (s : State) : Result := receive (some ignored) s

/-- Type code 14: R106, R196, R229, R268. -/
def execType14 (_p : Pkt) (s : State) : Result := receive (some ignored) s

/-- Type code 15: R106, R196, R229, R268. -/
def execType15 (_p : Pkt) (s : State) : Result := receive (some ignored) s

end Sys2Proof.Machine
end

