-- ==== Sys2Proof/Machine/Dispatch.lean ====
section
/-! DEFINITION. One arm per type code of spec/opcode_table.json. -/

namespace Sys2Proof.Machine

def exec (i : Instr) (s : State) : Host.Outcome State Fault Refusal :=
  match i with
  | .type0 p => Sys2Proof.Machine.execType0 p s
  | .syn p => Sys2Proof.Machine.execSyn p s
  | .synAck p => Sys2Proof.Machine.execSynAck p s
  | .data p => Sys2Proof.Machine.execData p s
  | .ack p => Sys2Proof.Machine.execAck p s
  | .fin p => Sys2Proof.Machine.execFin p s
  | .config p => Sys2Proof.Machine.execConfig p s
  | .type7 p => Sys2Proof.Machine.execType7 p s
  | .type8 p => Sys2Proof.Machine.execType8 p s
  | .type9 p => Sys2Proof.Machine.execType9 p s
  | .type10 p => Sys2Proof.Machine.execType10 p s
  | .type11 p => Sys2Proof.Machine.execType11 p s
  | .type12 p => Sys2Proof.Machine.execType12 p s
  | .type13 p => Sys2Proof.Machine.execType13 p s
  | .type14 p => Sys2Proof.Machine.execType14 p s
  | .type15 p => Sys2Proof.Machine.execType15 p s

end Sys2Proof.Machine
end

