-- ==== Sys2Proof/Machine/HostOps.lean ====
section
/-! DEFINITION. The operations by which the host resets and configures the units (spec/70_reset_and_hazards.md R350, R351, R353,
spec/44_responder_connection.md R270), and the directly invoked HC.* operations (spec/00_scope.md R16). -/

namespace Sys2Proof.Machine

/-- INI.RESET (R350): always enabled, nothing transmitted. -/
def opIniReset (s : State) : Result := .next (s.begin.setIni (Initiator.reset s.par))

/-- INI.CFG_WRITE (R353): enabled while CLOSED. -/
def opIniCfgWrite (target : Seq) (s : State) : Result :=
  if s.ini.conn = .closed then .next (s.begin.setIni { s.ini with target := target })
  else .refused (.notEnabled "INI.CFG_WRITE")

/-- RSP.RESET (R351): always enabled, nothing transmitted. -/
def opRspReset (s : State) : Result := .next (s.begin.setRsp Responder.reset)

/-- RSP.CFG_WRITE (R270): always enabled, a value above 100 refused. -/
def opRspCfgWrite (pct : Byte) (s : State) : Result :=
  if pct.toNat ≤ 100 then .next (s.begin.setRsp { s.rsp with dropPct := pct })
  else .refused .dropPctAbove100

/-- HC.ENCODE (R140). -/
def opHcEncode (h : Header) (s : State) : Result := .next (s.begin.setCodec (.encoded (hcEncode h)))

/-- HC.DECODE (R141). -/
def opHcDecode (d : Datagram) (s : State) : Result :=
  match hcDecode d with
  | .ok h => .next (s.begin.setCodec (.decoded h))
  | .error e => .next (s.begin.setCodec (.failed e))

/-- HC.PARSE (R145). -/
def opHcParse (d : Datagram) (s : State) : Result :=
  match decode d with
  | .ok i => .next (s.begin.setCodec (.parsed i))
  | .error e => .next (s.begin.setCodec (.failed e))

end Sys2Proof.Machine
end

