-- ==== Sys2Proof/Machine/Invoke.lean ====
section
/-! DEFINITION. How the environment's next action runs: a receiving operation that is offered a datagram parses it (R145) and runs the packet;
every other operation runs as it is (spec/00_scope.md R16). -/

namespace Sys2Proof.Machine

/-- The datagram the environment offers to an operation (R75, R83, R260). -/
def offered (o : Operation) (s : State) : Option Datagram :=
  match o with
  | .iniHsStep _ offer _ => if offer then s.iniQueue.head? else none
  | .sndRecv _ offer => if offer then s.iniQueue.head? else none
  | .rspRx _ _ _ => s.rspQueue.head?.map Prod.snd
  | _ => none

/-- The source address of the datagram at the head of the responder's queue (R260). -/
def headAddr (s : State) : Addr :=
  match s.rspQueue with
  | (addr, _) :: _ => addr
  | [] => 0

/-- The receiving operation now under way and its inputs; no other operation changes them. -/
def latch (o : Operation) (s : State) : State :=
  match o with
  | .iniHsStep now _ isn2 => { s with rxOp := .hsStep now isn2 }
  | .sndRecv now _ => { s with rxOp := .sndRecv now }
  | .rspRx lseq loss ts => { s with rxOp := .rspRx (headAddr s) lseq loss ts }
  | _ => s

/-- An operation that is offered no datagram. -/
def runPlain (o : Operation) (s : State) : Result :=
  match o with
  | .iniReset => opIniReset s
  | .iniCfgWrite target => opIniCfgWrite target s
  | .iniConnect now isn => opConnect now isn s
  | .iniHsStep _ _ _ => receive none s
  | .sndFill now chunk => opFill now chunk s
  | .sndRecv _ _ => receive none s
  | .sndTchk now => opTchk now s
  | .rspReset => opRspReset s
  | .rspCfgWrite pct => opRspCfgWrite pct s
  | .rspRx _ _ _ => receive none s
  | .hcEncode h => opHcEncode h s
  | .hcDecode d => opHcDecode d s
  | .hcParse d => opHcParse d s

/-- One operation (R16). -/
def runOp (o : Operation) (s : State) : Result :=
  match offered o s with
  | none => runPlain o (latch o s)
  | some d =>
    match decode d with
    | .ok i => exec i (latch o s)
    | .error _ => receive (some malformed) (latch o s)

/-- The environment's next action. -/
def runAction (a : Action) (s : State) : Result :=
  match a with
  | .op o => runOp o s
  | .env e => .next (runEnv e s)

/-- The draws with which `State.withFetchWord` invokes RSP.RX: local sequence number 0, the loss draw least likely to drop, and as many
zero bytes as a timestamp has (log entry 10). -/
def fetchOp (p : Params) : Operation := .rspRx 0 99 (List.replicate p.ackTsLen.toNat 0)

end Sys2Proof.Machine
end

