-- ==== Sys2Proof/Machine/Step.lean ====
section
/-! DEFINITION. One step: the next action of the environment takes effect (spec/00_scope.md R16, spec/20_memory.md R76); with none, every unit
holds its state (spec/60_exceptions.md R326). -/

namespace Sys2Proof.Machine

/-- One step of the engine and its environment. -/
def step (s : State) : Host.Outcome State Fault Refusal :=
  match s.script with
  | [] => .next s
  | a :: rest => runAction a { s with script := rest }

/-- The packet of a word of spec/opcode_table.json as the datagram that the very next step hands to RSP.RX, the receiving operation that
is always enabled (R260); the peer address is 0 (log entry 10). -/
def State.withFetchWord (s : State) (nbits w : Nat) : State :=
  { s with
    rspQueue := (0, tableDatagram nbits w) :: s.rspQueue
    script := .op (fetchOp s.par) :: s.script }

end Sys2Proof.Machine
end

