-- ==== Sys2Proof/Safety.lean ====
section
/-! DEFINITION. The terms statements are made in: when a receiving operation is open to a packet, the bytes of spec/30_encoding.md R108 to
R115 written out, and the invariants of spec/10_state.md R42 and R43 and spec/41_timeout_controller.md R167. -/

namespace Sys2Proof.Machine

/-! ## Wire bytes, written out from R108 to R115 -/

/-- An 8-byte header with `window = 400` and its payload: byte 0, `be16(sequence)`, `be16(ack)`, `01 90`, `length`, payload. -/
def wire (b0 : Byte) (sequence ack : Seq) (length : Byte) (payload : List Byte) : Datagram :=
  [b0, BitVec.ofNat 8 (sequence.toNat / 256), BitVec.ofNat 8 (sequence.toNat % 256),
   BitVec.ofNat 8 (ack.toNat / 256), BitVec.ofNat 8 (ack.toNat % 256), 0x01, 0x90, length] ++ payload

/-- The outputs of an operation that emits nothing. -/
def onlyStatus (x : Status) : Output := { Output.empty with status := some x }

/-! ## Open receiving operations -/

/-- INI.HS_STEP is under way and consumes the offered datagram: enabled, `now` as R13 demands, the attempt not expired (R192). -/
structure HsOpen (s : State) (now : Time) (isn2 : Seq) : Prop where
  port : s.rxOp = .hsStep now isn2
  enabled : s.ini.conn = .synSent
  clock : s.lastNow ≤ now
  started : s.ini.synTime ≤ now
  live : now.toNat - s.ini.synTime.toNat ≤ s.ini.rto

/-- INI.HS_STEP is under way and the attempt has expired (R192, R165). -/
structure HsExpired (s : State) (now : Time) (isn2 : Seq) : Prop where
  port : s.rxOp = .hsStep now isn2
  enabled : s.ini.conn = .synSent
  clock : s.lastNow ≤ now
  started : s.ini.synTime ≤ now
  expired : s.ini.rto < now.toNat - s.ini.synTime.toNat

/-- SND.RECV is under way: enabled, `now` as R13 demands (R226). -/
structure SndOpen (s : State) (now : Time) : Prop where
  port : s.rxOp = .sndRecv now
  enabled : s.ini.conn = .established
  inRecv : s.ini.phase = .recv
  clock : s.lastNow ≤ now

/-- A sender operation is enabled in a phase at `now` (R220, R13). -/
structure SndEnabled (s : State) (p : Phase) (now : Time) : Prop where
  enabled : s.ini.conn = .established
  inPhase : s.ini.phase = p
  clock : s.lastNow ≤ now

/-! ## Invariants -/

/-- The sizes of the pending entries, summed (R42 (d)). -/
def pendingBytes : List Pending → Nat
  | [] => 0
  | e :: es => e.size.toNat + pendingBytes es

/-- One pending entry as R25 describes it: not acknowledged (R42 (c)), 1 to 80 bytes, its byte range and its stored datagram. -/
structure PendingInv (lastNow : Time) (e : Pending) : Prop where
  fresh : e.acked = false
  sizeLow : 1 ≤ e.size.toNat
  sizeHigh : e.size.toNat ≤ 80
  startAt : e.start.toNat = 40 * e.seq.toNat
  stopAt : e.stop.toNat = e.start.toNat + e.size.toNat
  sentBefore : e.sendTime ≤ lastNow
  stored : e.raw.length = 8 + e.size.toNat ∧ e.raw.take 8 = wire 0x3F e.seq 0 (e.size.setWidth 8) []

/-- The Initiator unit while a handshake is under way (R23, R164, R191). -/
structure HandshakeInv (ticksPerMs : Nat) (lastNow : Time) (i : Initiator) : Prop where
  attemptsLow : 1 ≤ i.attempts.toNat
  attemptsHigh : i.attempts.toNat ≤ 5
  started : i.synTime ≤ lastNow
  noSample : i.samp = []
  backedOff : i.rto = 300 * ticksPerMs * 2 ^ (i.attempts.toNat - 1)
  noCount : i.initialSent = 0 ∧ i.retransmits = 0 ∧ i.totalSent = 0

/-- The Initiator unit while a transfer is under way (R42). -/
structure TransferInv (lastNow : Time) (i : Initiator) : Prop where
  baseLow : i.base ≤ i.nextSeq
  nextLow : i.nextSeq ≤ i.target
  keys : i.pend.map Pending.key = List.range' i.base.toNat (i.nextSeq.toNat - i.base.toNat)
  entries : ∀ e ∈ i.pend, PendingInv lastNow e
  bytes : i.bytesInFlight.toNat = pendingBytes i.pend
  window : i.bytesInFlight.toNat ≤ 400
  timer : i.timerRunning = true ↔ i.pend ≠ []
  timerSince : i.timerRunning = true → i.timerStart ≤ lastNow
  sentSum : i.totalSent = i.initialSent + i.retransmits
  sentOnce : i.initialSent = i.nextSeq.setWidth 32

/-- The timeout register during a transfer (R167): five times the element at index 5 of the sorted samples once there are ten, and until then
what the handshake's back-offs left. -/
def RtoInv (ticksPerMs : Nat) (i : Initiator) : Prop :=
  if i.samp.length = 10 then i.rto = 5 * ((sortAscending i.samp).getD 5 0).toNat
  else ∃ k : Fin 5, i.rto = 300 * ticksPerMs * 2 ^ k.val

/-- The invariant of the Initiator unit (R22, R23, R42, R167). -/
structure IniInv (s : State) : Prop where
  samples : s.ini.samp.length ≤ 10
  handshake : s.ini.conn = .synSent → HandshakeInv s.par.ticksPerMs s.lastNow s.ini
  transfer : s.ini.conn = .established → TransferInv s.lastNow s.ini
  timeout : s.ini.conn = .established → RtoInv s.par.ticksPerMs s.ini

/-- The invariant of the Responder unit (R29, R30, R43): one record per address, the table within its capacity, the rate a percentage. -/
structure RspInv (s : State) : Prop where
  oneEach : ascending Peer.key s.rsp.peers = true
  capacity : ∀ m, s.par.maxPeers = some m → 1 ≤ m → s.rsp.peers.length ≤ m
  percent : s.rsp.dropPct.toNat ≤ 100

/-! ## Safe runs -/

/-- A step that does not stop with a fault. -/
def noFault (r : Host.Outcome State Fault Refusal) : Prop := ∀ f, r ≠ .fault f

/-- The source payload memory meets the launch premise (R70). -/
def srcSuffices (s : State) : Prop :=
  1 ≤ s.ini.target.toNat → 40 * (s.ini.target.toNat - 1) + 80 ≤ s.srcLen

/-- The units an operation belongs to: the Initiator unit (R2, R20). -/
def Operation.ofInitiator : Operation → Bool
  | .iniReset => true
  | .iniCfgWrite _ => true
  | .iniConnect _ _ => true
  | .iniHsStep _ _ _ => true
  | .sndFill _ _ => true
  | .sndRecv _ _ => true
  | .sndTchk _ => true
  | .rspReset => false
  | .rspCfgWrite _ => false
  | .rspRx _ _ _ => false
  | .hcEncode _ => false
  | .hcDecode _ => false
  | .hcParse _ => false

/-- The Responder unit (R2, R20). -/
def Operation.ofResponder : Operation → Bool
  | .rspReset => true
  | .rspCfgWrite _ => true
  | .rspRx _ _ _ => true
  | .iniReset => false
  | .iniCfgWrite _ => false
  | .iniConnect _ _ => false
  | .iniHsStep _ _ _ => false
  | .sndFill _ _ => false
  | .sndRecv _ _ => false
  | .sndTchk _ => false
  | .hcEncode _ => false
  | .hcDecode _ => false
  | .hcParse _ => false

end Sys2Proof.Machine
end

