-- ==== Sys2Proof/Certificates/Slice0/Obligations.lean ====
section
/-! DEFINITION. The statements for the provers. Each docstring names the rules of spec/ it formalises; where a clause is the model's own choice it
says so and names the log entry (notes/assumptions). In the equations of a next state, the registers, the outputs and what is sent are the spec's; the fields
`script`, `rxOp`, `lastNow`, the two queues and the two lists of datagrams in flight are the model's form of R13, R16 and R75 (log entries 1, 10, 14, 21). -/

open Sys2Proof Sys2Proof.Machine

/-! ## Encoding -/

/-- R142: the header round trip; re-encoding a decoded header gives the first eight bytes exactly when the reserved nibble was all ones and in general
forces it to ones; and the strings of eight bytes that decode to a header are the sixteen that differ in that nibble. -/
def Obligations.HeaderRoundTripAndSixteenPreimages : Prop :=
  (∀ h : Header, hcDecode (hcEncode h) = .ok h) ∧
  (∀ (d : Datagram) (h : Header), hcDecode d = .ok h →
    (hcEncode h = d.take 8 ↔ (d.headD 0).extractLsb' 0 4 = 0xF#4) ∧
    hcEncode h = (d.headD 0 ||| 0x0F#8) :: (d.take 8).tail) ∧
  (∀ (h : Header) (d : Datagram),
    (d.length = 8 ∧ hcDecode d = .ok h) ↔ ∃ n : BitVec 4, d = (h.type ++ n) :: (hcEncode h).tail)

/-- The header round trip carried to whole packets (R120, R143, R145, R146): every well-formed packet is what its datagram parses to. -/
def Obligations.EncodedPacketDecodesBack : Prop :=
  ∀ i : Instr, i.wellFormed = true → decode (encode i) = .ok i

/-- The other direction: a datagram that parses is the datagram of its packet but for the reserved nibble of byte 0 (R105, R145). -/
def Obligations.DecodedPacketEncodesBackUpToReservedNibble : Prop :=
  ∀ (d : Datagram) (i : Instr), decode d = .ok i →
    i.wellFormed = true ∧ encode i = (d.headD 0 ||| 0x0F#8) :: d.tail

/-- R145: HC.PARSE, clause by clause, the type and the fields read from the bytes. -/
def Obligations.ParseValidatesLengthThenReadsFields : Prop :=
  ∀ d : Datagram,
    (d.length < 8 → decode d = .error .shortHeader) ∧
    (∀ b0 b1 b2 b3 b4 b5 b6 b7 trailing, d = b0 :: b1 :: b2 :: b3 :: b4 :: b5 :: b6 :: b7 :: trailing →
      (((b0.toNat / 16 = 3 ∨ b0.toNat / 16 = 6) ∧ trailing.length ≠ b7.toNat) → decode d = .error .lengthMismatch) ∧
      (((b0.toNat / 16 = 3 ∨ b0.toNat / 16 = 6) → trailing.length = b7.toNat) →
        ∃ i, decode d = .ok i ∧ i.code.toNat = b0.toNat / 16 ∧
          i.pkt.sequence.toNat = b1.toNat * 256 + b2.toNat ∧ i.pkt.ack.toNat = b3.toNat * 256 + b4.toNat ∧
          i.pkt.window.toNat = b5.toNat * 256 + b6.toNat ∧ i.pkt.length = b7 ∧ i.pkt.payload = trailing))

/-- Every word of the opcode table's width decodes, to the packet whose type its mask selects and whose fields stand where R100 and the table's pattern
put them; with no other payload than the zero bytes DATA and CONFIG need (the model's reading of the table, log entry 10). -/
def Obligations.TableWordDecodesByMaskAndFields : Prop :=
  ∀ w : Nat, w < 2 ^ 64 → ∃ i, decodeTableWord 64 w = some i ∧
    i.code.toNat = w / 2 ^ 60 ∧ i.pkt.sequence.toNat = w / 2 ^ 40 % 2 ^ 16 ∧ i.pkt.ack.toNat = w / 2 ^ 24 % 2 ^ 16 ∧
    i.pkt.window.toNat = w / 2 ^ 8 % 2 ^ 16 ∧ i.pkt.length.toNat = w % 2 ^ 8 ∧
    i.pkt.payload = List.replicate (if w / 2 ^ 60 = 3 ∨ w / 2 ^ 60 = 6 then w % 2 ^ 8 else 0) 0

/-- A sanity statement: words written out byte by byte from R100 and R103, vectors V-HC-1, V-HC-2, V-HC-10, V-HC-12, V-HC-20, V-HC-28. -/
def Obligations.SampleDatagramsDecode : Prop :=
  decode [0x1F, 0x12, 0x34, 0x00, 0x00, 0x01, 0x90, 0x00] = .ok (.syn ⟨0x1234, 0, 400, 0, []⟩) ∧
  decode [0x2F, 0xAB, 0xCD, 0x12, 0x35, 0x01, 0x90, 0x00] = .ok (.synAck ⟨0xABCD, 0x1235, 400, 0, []⟩) ∧
  decode [0x7F, 0x00, 0x01, 0x00, 0x02, 0x00, 0x03, 0x04] = .ok (.type7 ⟨1, 2, 3, 4, []⟩) ∧
  decode [0x40, 0x12, 0x34, 0xAB, 0xCE, 0x01, 0x90, 0x00] = .ok (.ack ⟨0x1234, 0xABCE, 400, 0, []⟩) ∧
  decode [0x3F, 0x00, 0x00, 0x00, 0x00, 0x01, 0x90, 0x02, 0xAA] = .error .lengthMismatch ∧
  decode [0x4F, 0x00, 0x00, 0x00, 0x01, 0x01] = .error .shortHeader

/-! ## The step -/

/-- A step runs the decoded packet: when the next action is a receiving operation that is offered a datagram which parses, the step is `exec` of that
packet with the action taken off the script and the operation's inputs latched (R16, R75, R145). -/
def Obligations.StepRunsTheDecodedPacket : Prop :=
  ∀ (s : State) (o : Operation) (rest : List Action) (d : Datagram) (i : Instr),
    s.script = .op o :: rest → offered o s = some d → decode d = .ok i →
    step s = exec i (latch o { s with script := rest })

/-- A word of the opcode table placed where the next step fetches is what that step runs, on the always-enabled operation RSP.RX (R260), from peer address 0
with the draws the model names (log entry 10). -/
def Obligations.FetchedTableWordRunsNext : Prop :=
  ∀ (s : State) (nbits w : Nat) (i : Instr), decodeTableWord nbits w = some i →
    step (s.withFetchWord nbits w) =
      exec i { s with rspQueue := (0, tableDatagram nbits w) :: s.rspQueue,
                      rxOp := .rspRx 0 0 99 (List.replicate s.par.ackTsLen.toNat 0) }

/-- Between operations a unit holds its state (R326): a step with nothing invoked changes nothing. -/
def Obligations.IdleStepHoldsState : Prop :=
  ∀ s : State, s.script = [] → step s = .next s

/-- R16 and the list of spec/93_implementation_defined.md section 1: an operation invoked while its enabling condition is false is refused, and the refusal
carries the operation's name. That it is a refusal and not a state without a step, and the name, are the model's reading (log entry 19). -/
def Obligations.DisabledOperationIsRefused : Prop :=
  ∀ (s : State) (o : Operation) (rest : List Action) (name : String), s.script = .op o :: rest →
    ((∃ target, o = .iniCfgWrite target) ∧ s.ini.conn ≠ .closed ∧ name = "INI.CFG_WRITE" ∨
     (∃ now isn, o = .iniConnect now isn) ∧ s.ini.conn ≠ .closed ∧ name = "INI.CONNECT" ∨
     (∃ now offer isn2, o = .iniHsStep now offer isn2) ∧ s.ini.conn ≠ .synSent ∧ name = "INI.HS_STEP" ∨
     (∃ now chunk, o = .sndFill now chunk) ∧ ¬(s.ini.conn = .established ∧ s.ini.phase = .fill) ∧ name = "SND.FILL" ∨
     (∃ now offer, o = .sndRecv now offer) ∧ ¬(s.ini.conn = .established ∧ s.ini.phase = .recv) ∧ name = "SND.RECV" ∨
     (∃ now, o = .sndTchk now) ∧ ¬(s.ini.conn = .established ∧ s.ini.phase = .tchk) ∧ name = "SND.TCHK") →
    step s = .refused (.notEnabled name)

/-! ## Responder: RSP.RX -/

/-- R262 and R269: the SYN arm. With a record for the address, or with room in the table, the record is written and a SYN_ACK sent; else rejected. The parameter
`MAX_PEERS` is at least 1 (R10). -/
def Obligations.RspSynOpensRecordOrRejectsWhenFull : Prop :=
  ∀ (p : Pkt) (s : State) (addr : Addr) (lseq : Seq) (loss : Fin 100) (ts : List Byte),
    s.rxOp = .rspRx addr lseq loss ts → (∀ m, s.par.maxPeers = some m → 1 ≤ m) →
    ((s.rsp.find addr ≠ none ∨ ∀ m, s.par.maxPeers = some m → s.rsp.peers.length < m) →
      exec (.syn p) s = .next { s with
        rsp := { s.rsp with peers := putBy Peer.key ⟨addr, .synReceived, 0, lseq⟩ s.rsp.peers }
        out := { Output.empty with status := some .synAccepted, reply := [(addr, wire 0x2F lseq (p.sequence + 1) 0 [])] }
        toIni := s.toIni ++ [(addr, wire 0x2F lseq (p.sequence + 1) 0 [])]
        rspQueue := s.rspQueue.tail }) ∧
    ((s.rsp.find addr = none ∧ ∃ m, s.par.maxPeers = some m ∧ m ≤ s.rsp.peers.length) →
      exec (.syn p) s = .next { s with
        rsp := { s.rsp with rejectCount := s.rsp.rejectCount + 1 }
        out := onlyStatus .rejected
        rspQueue := s.rspQueue.tail })

/-- R263 and R264: the ACK arms; the packet's `ack` field is not read. -/
def Obligations.RspAckEstablishesRejectsOrIgnores : Prop :=
  ∀ (p : Pkt) (s : State) (addr : Addr) (lseq : Seq) (loss : Fin 100) (ts : List Byte),
    s.rxOp = .rspRx addr lseq loss ts →
    (∀ r, s.rsp.find addr = some r → r.state = .synReceived →
      exec (.ack p) s = .next { s with
        rsp := { s.rsp with peers := putBy Peer.key { r with state := .established, expectedSeq := 0 } s.rsp.peers }
        out := { Output.empty with status := some .peerEstablished, reply := [(addr, wire 0x6F 0 0 1 [s.rsp.dropPct])] }
        toIni := s.toIni ++ [(addr, wire 0x6F 0 0 1 [s.rsp.dropPct])]
        rspQueue := s.rspQueue.tail }) ∧
    (s.rsp.find addr = none →
      exec (.ack p) s = .next { s with
        rsp := { s.rsp with rejectCount := s.rsp.rejectCount + 1 }
        out := onlyStatus .rejected
        rspQueue := s.rspQueue.tail }) ∧
    (∀ r, s.rsp.find addr = some r → r.state = .established →
      exec (.ack p) s = .next { s with out := onlyStatus .ignored, rspQueue := s.rspQueue.tail })

/-- R265 and R266: the FIN arms. -/
def Obligations.RspFinClosesRecordOrRejects : Prop :=
  ∀ (p : Pkt) (s : State) (addr : Addr) (lseq : Seq) (loss : Fin 100) (ts : List Byte),
    s.rxOp = .rspRx addr lseq loss ts →
    (s.rsp.find addr ≠ none →
      exec (.fin p) s = .next { s with
        rsp := { s.rsp with peers := s.rsp.peers.filter (fun r => r.addr != addr) }
        out := { Output.empty with status := some .finClosed, reply := [(addr, wire 0x4F 0 (p.sequence + 1) 0 [])] }
        toIni := s.toIni ++ [(addr, wire 0x4F 0 (p.sequence + 1) 0 [])]
        rspQueue := s.rspQueue.tail }) ∧
    (s.rsp.find addr = none →
      exec (.fin p) s = .next { s with
        rsp := { s.rsp with rejectCount := s.rsp.rejectCount + 1 }
        out := onlyStatus .rejected
        rspQueue := s.rspQueue.tail })

/-- R267: DATA for a peer that is not ESTABLISHED is rejected, whatever the draws. -/
def Obligations.RspDataRejectedUnlessEstablished : Prop :=
  ∀ (p : Pkt) (s : State) (addr : Addr) (lseq : Seq) (loss : Fin 100) (ts : List Byte),
    s.rxOp = .rspRx addr lseq loss ts →
    (s.rsp.find addr = none ∨ ∃ r, s.rsp.find addr = some r ∧ r.state = .synReceived) →
    exec (.data p) s = .next { s with
      rsp := { s.rsp with rejectCount := s.rsp.rejectCount + 1 }
      out := onlyStatus .rejected
      rspQueue := s.rspQueue.tail }

/-- R290 with R113 and R292 to R294: the DATA arm of an ESTABLISHED peer. Dropped when the loss draw is below the rate; else in order or out of order,
delivered, and answered with the cumulative ACK after the update, its payload the `ACK_TS_LEN` bytes of `ts`. -/
def Obligations.RspDataDroppedOrAcceptedAndAcknowledged : Prop :=
  ∀ (p : Pkt) (s : State) (addr : Addr) (lseq : Seq) (loss : Fin 100) (ts : List Byte) (r : Peer),
    s.rxOp = .rspRx addr lseq loss ts → s.rsp.find addr = some r → r.state = .established → ts.length = s.par.ackTsLen.toNat →
    (loss.val < s.rsp.dropPct.toNat →
      exec (.data p) s = .next { s with
        rsp := { s.rsp with dropCount := s.rsp.dropCount + 1 }
        out := onlyStatus .dataDropped
        rspQueue := s.rspQueue.tail }) ∧
    (s.rsp.dropPct.toNat ≤ loss.val → p.sequence = r.expectedSeq →
      exec (.data p) s = .next { s with
        rsp := { s.rsp with peers := putBy Peer.key { r with expectedSeq := r.expectedSeq + 1 } s.rsp.peers }
        out := { Output.empty with
          status := some .dataInOrder
          reply := [(addr, wire 0x4F 0 (r.expectedSeq + 1) s.par.ackTsLen ts)]
          delivered := [⟨addr, p.sequence, p.payload, true⟩] }
        toIni := s.toIni ++ [(addr, wire 0x4F 0 (r.expectedSeq + 1) s.par.ackTsLen ts)]
        rspQueue := s.rspQueue.tail }) ∧
    (s.rsp.dropPct.toNat ≤ loss.val → p.sequence ≠ r.expectedSeq →
      exec (.data p) s = .next { s with
        rsp := { s.rsp with oooCount := s.rsp.oooCount + 1 }
        out := { Output.empty with
          status := some .dataOutOfOrder
          reply := [(addr, wire 0x4F 0 r.expectedSeq s.par.ackTsLen ts)]
          delivered := [⟨addr, p.sequence, p.payload, false⟩] }
        toIni := s.toIni ++ [(addr, wire 0x4F 0 r.expectedSeq s.par.ackTsLen ts)]
        rspQueue := s.rspQueue.tail })

/-- R268: SYN_ACK, CONFIG and every unassigned type are consumed and ignored by the responder, whatever the peer's state. -/
def Obligations.RspIgnoresEveryOtherType : Prop :=
  ∀ (i : Instr) (s : State) (addr : Addr) (lseq : Seq) (loss : Fin 100) (ts : List Byte),
    s.rxOp = .rspRx addr lseq loss ts →
    (i.unassigned = true ∨ (∃ p, i = .synAck p) ∨ ∃ p, i = .config p) →
    exec i s = .next { s with out := onlyStatus .ignored, rspQueue := s.rspQueue.tail }

/-- A malformed datagram at the responder (R260, R311): counted before the peer is looked up, and nothing else. -/
def Obligations.RspMalformedIsCountedOnly : Prop :=
  ∀ (s : State) (rest : List Action) (addr : Addr) (d : Datagram) (q : List (Addr × Datagram)) (lseq : Seq) (loss : Fin 100)
    (ts : List Byte) (why : Malformed),
    s.script = .op (.rspRx lseq loss ts) :: rest → s.rspQueue = (addr, d) :: q → decode d = .error why →
    step s = .next { s with
      script := rest
      rxOp := .rspRx addr lseq loss ts
      rsp := { s.rsp with malformedCount := s.rsp.malformedCount + 1 }
      out := onlyStatus .malformed
      rspQueue := q }

/-- R291, its two ends: a rate of 0 never drops and a rate of 100 drops every DATA packet of an ESTABLISHED peer, whatever the loss draw, and a dropped
packet changes `RSP.dropCount` and nothing else of the responder. -/
def Obligations.LossPolicyNeverAtZeroAlwaysAtHundred : Prop :=
  ∀ (p : Pkt) (s t : State) (addr : Addr) (lseq : Seq) (loss : Fin 100) (ts : List Byte) (r : Peer),
    s.rxOp = .rspRx addr lseq loss ts → s.rsp.find addr = some r → r.state = .established → exec (.data p) s = .next t →
    (s.rsp.dropPct = 0 → t.out.status ≠ some .dataDropped ∧ t.rsp.dropCount = s.rsp.dropCount) ∧
    (s.rsp.dropPct = 100 → t.out.status = some .dataDropped) ∧
    (t.out.status = some .dataDropped → t.rsp = { s.rsp with dropCount := s.rsp.dropCount + 1 } ∧ t.out.reply = [])

/-- R315: dropped, rejected and malformed datagrams are each counted in one counter and in no other, every other outcome of RSP.RX counts in none of the three, and only an out-of-order DATA packet counts in `RSP.oooCount` (R293). -/
def Obligations.EachDatagramCountsAtMostOnce : Prop :=
  ∀ (s t : State) (rest : List Action) (lseq : Seq) (loss : Fin 100) (ts : List Byte),
    s.script = .op (.rspRx lseq loss ts) :: rest → step s = .next t →
    (t.rsp.dropCount, t.rsp.rejectCount, t.rsp.malformedCount) =
      (if t.out.status = some .dataDropped then (s.rsp.dropCount + 1, s.rsp.rejectCount, s.rsp.malformedCount)
       else if t.out.status = some .rejected then (s.rsp.dropCount, s.rsp.rejectCount + 1, s.rsp.malformedCount)
       else if t.out.status = some .malformed then (s.rsp.dropCount, s.rsp.rejectCount, s.rsp.malformedCount + 1)
       else (s.rsp.dropCount, s.rsp.rejectCount, s.rsp.malformedCount)) ∧
    t.rsp.oooCount = (if t.out.status = some .dataOutOfOrder then s.rsp.oooCount + 1 else s.rsp.oooCount)

/-- R260 and R316: RSP.RX is always enabled. Whatever the peer table holds and whatever bytes arrive, the step completes; the draw `ts` has its length (R15). -/
def Obligations.RspRxAlwaysCompletes : Prop :=
  ∀ (s : State) (rest : List Action) (lseq : Seq) (loss : Fin 100) (ts : List Byte),
    s.script = .op (.rspRx lseq loss ts) :: rest → s.rspQueue ≠ [] → ts.length = s.par.ackTsLen.toNat →
    ∃ t, step s = .next t ∧ t.rspQueue = s.rspQueue.tail

/-- The frame of RSP.RX for every packet (R77, R82, R260, R272): no record but the source address's changes, every datagram sent goes to that address, exactly the
offered datagram is consumed, and no register of the initiator, parameter or byte of the source payload memory changes. -/
def Obligations.RspRxTouchesOnlyItsPeer : Prop :=
  ∀ (i : Instr) (s t : State) (addr : Addr) (lseq : Seq) (loss : Fin 100) (ts : List Byte),
    s.rxOp = .rspRx addr lseq loss ts → exec i s = .next t →
    (∀ b, b ≠ addr → t.rsp.find b = s.rsp.find b) ∧ t.rsp.dropPct = s.rsp.dropPct ∧
    (∀ x ∈ t.out.reply, x.1 = addr) ∧ t.toIni = s.toIni ++ t.out.reply ∧ t.rspQueue = s.rspQueue.tail ∧
    t.ini = s.ini ∧ t.par = s.par ∧ t.iniQueue = s.iniQueue ∧ t.toRsp = s.toRsp ∧ t.lastNow = s.lastNow ∧
    t.script = s.script ∧ t.srcLen = s.srcLen ∧ ∀ a, t.src.read a = s.src.read a

/-- R273: two RSP.RX for different addresses commute where the table is unbounded, and in a bounded table where both addresses hold a record: every record, every
counter and the outputs of each are the same in either order. -/
def Obligations.RspRxOfDifferentPeersCommute : Prop :=
  ∀ (i j : Instr) (s t u t' u' : State) (a b : Addr) (la lb : Seq) (xa xb : Fin 100) (ta tb : List Byte),
    a ≠ b → (s.par.maxPeers = none ∨ s.rsp.find a ≠ none ∧ s.rsp.find b ≠ none) →
    exec i { s with rxOp := .rspRx a la xa ta } = .next t → exec j { t with rxOp := .rspRx b lb xb tb } = .next u →
    exec j { s with rxOp := .rspRx b lb xb tb } = .next t' → exec i { t' with rxOp := .rspRx a la xa ta } = .next u' →
    (∀ c, u.rsp.find c = u'.rsp.find c) ∧ u.rsp.dropPct = u'.rsp.dropPct ∧ u.rsp.dropCount = u'.rsp.dropCount ∧
    u.rsp.rejectCount = u'.rsp.rejectCount ∧ u.rsp.malformedCount = u'.rsp.malformedCount ∧ u.rsp.oooCount = u'.rsp.oooCount ∧
    t.out = u'.out ∧ u.out = t'.out

/-- R295: the receiver keeps nothing of an out-of-order packet. When a packet that is not the expected one is accepted and then the expected one arrives, the
expected sequence number has advanced by one only. -/
def Obligations.OutOfOrderArrivalIsForgotten : Prop :=
  ∀ (p q : Pkt) (s t u : State) (addr : Addr) (l l' : Seq) (x x' : Fin 100) (ts ts' : List Byte) (r : Peer),
    s.rsp.find addr = some r → r.state = .established → p.sequence ≠ r.expectedSeq → q.sequence = r.expectedSeq →
    exec (.data p) { s with rxOp := .rspRx addr l x ts } = .next t →
    exec (.data q) { t with rxOp := .rspRx addr l' x' ts' } = .next u → u.out.status ≠ some .dataDropped →
    t.rsp.find addr = some r ∧ u.rsp.find addr = some { r with expectedSeq := r.expectedSeq + 1 }

/-- R261: a peer's state changes only by a SYN, by an ACK in SYN_RECEIVED, by a FIN, or by RSP.RESET. -/
def Obligations.PeerStateChangesOnlyBySynAckFinOrReset : Prop :=
  ∀ (s t : State) (b : Addr), step s = .next t →
    (t.rsp.find b).map Peer.state ≠ (s.rsp.find b).map Peer.state →
    ∃ rest, s.script = .op .rspReset :: rest ∧ t.rsp.find b = none ∨
      ∃ lseq loss ts d q i, s.script = .op (.rspRx lseq loss ts) :: rest ∧ s.rspQueue = (b, d) :: q ∧ decode d = .ok i ∧
        ((∃ p, i = .syn p) ∧ (t.rsp.find b).map Peer.state = some .synReceived ∨
         (∃ p, i = .ack p) ∧ (s.rsp.find b).map Peer.state = some .synReceived ∧
            (t.rsp.find b).map Peer.state = some .established ∨
         (∃ p, i = .fin p) ∧ t.rsp.find b = none)

/-! ## Initiator: the handshake -/

/-- R191: INI.CONNECT. The launch premise on the source payload memory is R70's (log entry 11). That a register which then holds no value keeps its last one is the model's choice (log entry 4). -/
def Obligations.ConnectStartsASession : Prop :=
  ∀ (s : State) (rest : List Action) (now : Time) (isn : Seq),
    s.script = .op (.iniConnect now isn) :: rest → s.ini.conn = .closed → s.lastNow ≤ now → srcSuffices s →
    step s = .next { s with
      script := rest
      lastNow := now
      ini := { s.ini with
        rto := 300 * s.par.ticksPerMs, samp := [], base := 0, nextSeq := 0, bytesInFlight := 0, pend := [], timerRunning := false,
        initialSent := 0, retransmits := 0, totalSent := 0, hsFailed := false, xferDone := false, peerDropValid := false,
        isn := isn, attempts := 1, synTime := now, conn := .synSent }
      out := { Output.empty with status := some .synSentOk, tx := [wire 0x1F isn 0 0 []] }
      toRsp := s.toRsp ++ [wire 0x1F isn 0 0 []] }

/-- R193 and R194: the expiry of an attempt, whatever datagram is offered; it is not consumed (R192). Before the fifth attempt the timeout doubles and a SYN goes out;
at the fifth the handshake fails, and the timeout register holds some value that no clause states (R194, log entry 9). That a register which then holds no value keeps its last one is the model's choice (log entry 4). -/
def Obligations.ExpiredAttemptRetriesOrFails : Prop :=
  ∀ (s : State) (rest : List Action) (now : Time) (offer : Bool) (isn2 : Seq),
    s.script = .op (.iniHsStep now offer isn2) :: rest → HsExpired { s with rxOp := .hsStep now isn2 } now isn2 →
    (s.ini.attempts.toNat < 5 →
      step s = .next { s with
        script := rest
        rxOp := .hsStep now isn2
        lastNow := now
        ini := { s.ini with rto := 2 * s.ini.rto, attempts := s.ini.attempts + 1, isn := isn2, synTime := now }
        out := { Output.empty with status := some .hsRetry, tx := [wire 0x1F isn2 0 0 []] }
        toRsp := s.toRsp ++ [wire 0x1F isn2 0 0 []] }) ∧
    (s.ini.attempts.toNat = 5 →
      ∃ rto count, step s = .next { s with
        script := rest
        rxOp := .hsStep now isn2
        lastNow := now
        ini := { s.ini with conn := .closed, hsFailed := true, rto := rto }
        out := onlyStatus .hsFailed
        freeCount := count })

/-- R195 and R196 for a SYN_ACK: accepted exactly when it acknowledges the latest SYN. That a register which then holds no value keeps its last one is the model's choice (log entry 4). -/
def Obligations.SynAckEstablishesOrIsIgnored : Prop :=
  ∀ (p : Pkt) (s : State) (now : Time) (isn2 : Seq), HsOpen s now isn2 →
    (p.ack = s.ini.isn + 1 →
      exec (.synAck p) s = .next { s with
        lastNow := now
        ini := { s.ini with
          serverSeq := p.sequence, base := 0, nextSeq := 0, bytesInFlight := 0, pend := [], timerRunning := false,
          phase := .fill, conn := .established }
        out := { Output.empty with status := some .hsEstablished, tx := [wire 0x4F 0 (p.sequence + 1) 0 []] }
        toRsp := s.toRsp ++ [wire 0x4F 0 (p.sequence + 1) 0 []]
        iniQueue := s.iniQueue.tail }) ∧
    (p.ack ≠ s.ini.isn + 1 →
      exec (.synAck p) s = .next { s with lastNow := now, out := onlyStatus .ignored, iniQueue := s.iniQueue.tail })

/-- R196 for every other type: consumed and ignored in the handshake, the attempt's deadline unchanged. -/
def Obligations.HandshakeIgnoresEveryOtherType : Prop :=
  ∀ (i : Instr) (s : State) (now : Time) (isn2 : Seq), HsOpen s now isn2 → (∀ p, i ≠ .synAck p) →
    exec i s = .next { s with lastNow := now, out := onlyStatus .ignored, iniQueue := s.iniQueue.tail }

/-- R192: the arms of an attempt that has not expired when no datagram is offered, and when a malformed one is. An offer while nothing waits counts as no offer: the
model's reading (log entry 19). -/
def Obligations.HandshakeWaitsOrDiscardsMalformed : Prop :=
  ∀ (s : State) (rest : List Action) (now : Time) (offer : Bool) (isn2 : Seq),
    s.script = .op (.iniHsStep now offer isn2) :: rest → HsOpen { s with rxOp := .hsStep now isn2 } now isn2 →
    ((offer = false ∨ s.iniQueue = []) →
      step s = .next { s with script := rest, rxOp := .hsStep now isn2, lastNow := now, out := onlyStatus .hsWait }) ∧
    (∀ d q why, offer = true → s.iniQueue = d :: q → decode d = .error why →
      step s = .next { s with
        script := rest, rxOp := .hsStep now isn2, lastNow := now, out := onlyStatus .malformed, iniQueue := q })

/-- R197 with `TICKS_PER_MS = 1`: when every INI.HS_STEP comes at the first tick at which the attempt has expired, the SYNs go out at the connect and at 301, 902,
2103 and 4504 ticks after it with the timeout doubling from 300, and the failure is reported at 9305. -/
def Obligations.SilentResponderMeansFiveSynsThenFailure : Prop :=
  ∀ (s : State) (t0 : Time) (a b c d e z : Seq),
    s.ini.conn = .closed → s.lastNow ≤ t0 → srcSuffices s → s.par.ticksPerMs = 1 → t0.toNat + 9305 < 2 ^ 64 →
    s.script = [.op (.iniConnect t0 a), .op (.iniHsStep (t0 + 301) false b), .op (.iniHsStep (t0 + 902) false c),
      .op (.iniHsStep (t0 + 2103) false d), .op (.iniHsStep (t0 + 4504) false e), .op (.iniHsStep (t0 + 9305) false z)] →
    (∀ k, 1 ≤ k → k ≤ 5 → ∃ t, Host.Core.run Sys2Proof.core k s = .next t ∧ t.ini.conn = .synSent ∧
      t.ini.rto = 300 * 2 ^ (k - 1) ∧ t.ini.attempts.toNat = k) ∧
    ∃ t, Host.Core.run Sys2Proof.core 6 s = .next t ∧ t.ini.conn = .closed ∧ t.ini.hsFailed = true ∧
      t.out = onlyStatus .hsFailed ∧
      t.toRsp = s.toRsp ++ [wire 0x1F a 0 0 [], wire 0x1F b 0 0 [], wire 0x1F c 0 0 [], wire 0x1F d 0 0 [], wire 0x1F e 0 0 []]

/-- R190: the initiator's connection changes only as the rule lists, or by INI.RESET (R350). -/
def Obligations.ConnectionChangesOnlyAsListed : Prop :=
  ∀ (s t : State), step s = .next t → t.ini.conn ≠ s.ini.conn →
    ∃ o rest, s.script = .op o :: rest ∧
      (o = .iniReset ∧ t.ini.conn = .closed ∨
       (∃ now isn, o = .iniConnect now isn) ∧ s.ini.conn = .closed ∧ t.ini.conn = .synSent ∨
       (∃ now isn2 d q p, o = .iniHsStep now true isn2 ∧ s.iniQueue = d :: q ∧ decode d = .ok (.synAck p) ∧
          p.ack = s.ini.isn + 1) ∧ s.ini.conn = .synSent ∧ t.ini.conn = .established ∨
       (∃ now offer isn2, o = .iniHsStep now offer isn2 ∧ s.ini.synTime ≤ now ∧
          s.ini.rto < now.toNat - s.ini.synTime.toNat) ∧ 5 ≤ s.ini.attempts.toNat ∧ s.ini.conn = .synSent ∧ t.ini.conn = .closed ∧ t.ini.hsFailed = true ∨
       (∃ now chunk, o = .sndFill now chunk) ∧ s.ini.base = s.ini.target ∧ s.ini.conn = .established ∧
          t.ini.conn = .closed ∧ t.ini.xferDone = true)

/-! ## Initiator: the sender -/

/-- R221: SND.FILL when the transfer is complete. That a register which then holds no value keeps its last one is the model's choice (log entry 4). -/
def Obligations.FillSendsFinWhenComplete : Prop :=
  ∀ (s : State) (rest : List Action) (now : Time) (chunk : Nat),
    s.script = .op (.sndFill now chunk) :: rest → SndEnabled s .fill now → s.ini.base = s.ini.target →
    step s = .next { s with
      script := rest
      lastNow := now
      ini := { s.ini with conn := .closed, xferDone := true }
      out := { Output.empty with
        status := some .finSent
        tx := [wire 0x5F s.ini.nextSeq 0 0 []]
        stats := [.final s.ini.totalSent s.ini.initialSent s.ini.retransmits s.ini.peerDropValid
          (if s.ini.peerDropValid then some s.ini.peerDropPct else none)] }
      toRsp := s.toRsp ++ [wire 0x5F s.ini.nextSeq 0 0 []] }

/-- R222 with R112, R224 and R225: SND.FILL sends one packet. The source payload memory reaches past the slice (R70). -/
def Obligations.FillSendsOnePacket : Prop :=
  ∀ (s : State) (rest : List Action) (now : Time) (chunk size : Nat) (payload : List Byte),
    s.script = .op (.sndFill now chunk) :: rest → SndEnabled s .fill now →
    s.ini.base < s.ini.target → s.ini.nextSeq < s.ini.target → s.ini.bytesInFlight.toNat < 400 → 40 ≤ chunk → chunk ≤ 80 →
    size = min chunk (400 - s.ini.bytesInFlight.toNat) → 40 * s.ini.nextSeq.toNat + size ≤ s.srcLen →
    payload = (List.range size).map (fun k => s.src.read (40 * s.ini.nextSeq.toNat + k)) →
    step s = .next { s with
      script := rest
      lastNow := now
      ini := { s.ini with
        pend := putBy Pending.key
          { seq := s.ini.nextSeq, raw := wire 0x3F s.ini.nextSeq 0 (BitVec.ofNat 8 size) payload, size := BitVec.ofNat 7 size,
            start := BitVec.ofNat 32 (40 * s.ini.nextSeq.toNat), stop := BitVec.ofNat 32 (40 * s.ini.nextSeq.toNat + size),
            sendTime := now, acked := false, retries := 0 } s.ini.pend
        nextSeq := s.ini.nextSeq + 1
        bytesInFlight := BitVec.ofNat 9 (s.ini.bytesInFlight.toNat + size)
        initialSent := s.ini.initialSent + 1
        totalSent := s.ini.totalSent + 1
        timerRunning := true
        timerStart := if s.ini.timerRunning then s.ini.timerStart else now }
      out := { Output.empty with
        status := some .sent, tx := [wire 0x3F s.ini.nextSeq 0 (BitVec.ofNat 8 size) payload] }
      toRsp := s.toRsp ++ [wire 0x3F s.ini.nextSeq 0 (BitVec.ofNat 8 size) payload] }

/-- R223: SND.FILL with the window closed. -/
def Obligations.FillClosesTheWindow : Prop :=
  ∀ (s : State) (rest : List Action) (now : Time) (chunk : Nat),
    s.script = .op (.sndFill now chunk) :: rest → SndEnabled s .fill now → s.ini.base < s.ini.target →
    (s.ini.nextSeq = s.ini.target ∨ s.ini.bytesInFlight = 400) →
    step s = .next { s with
      script := rest, lastNow := now, ini := { s.ini with phase := .recv }, out := onlyStatus .windowClosed }

/-- R226: SND.RECV when no datagram is offered, and when a malformed one is; the phase advances in both. An offer while nothing waits counts as no offer: the
model's reading (log entry 19). -/
def Obligations.RecvOfNothingOrMalformedAdvancesPhase : Prop :=
  ∀ (s : State) (rest : List Action) (now : Time) (offer : Bool),
    s.script = .op (.sndRecv now offer) :: rest → SndEnabled s .recv now →
    ((offer = false ∨ s.iniQueue = []) →
      step s = .next { s with
        script := rest, rxOp := .sndRecv now, lastNow := now, ini := { s.ini with phase := .tchk }, out := onlyStatus .rxNone }) ∧
    (∀ d q why, offer = true → s.iniQueue = d :: q → decode d = .error why →
      step s = .next { s with
        script := rest, rxOp := .sndRecv now, lastNow := now, ini := { s.ini with phase := .tchk }, out := onlyStatus .malformed,
        iniQueue := q })

/-- R229: everything but an ACK with `ack > 0` and a CONFIG is consumed and ignored in the transfer, and only the phase changes. -/
def Obligations.RecvIgnoresEveryOtherPacket : Prop :=
  ∀ (i : Instr) (s : State) (now : Time), SndOpen s now → (∀ p, i ≠ .config p) → (∀ p, i = .ack p → p.ack = 0) →
    exec i s = .next { s with
      lastNow := now, ini := { s.ini with phase := .tchk }, out := onlyStatus .ignored, iniQueue := s.iniQueue.tail }

/-- R228: a well-formed CONFIG in the transfer is latched as found when it carries a byte, and ignored otherwise. -/
def Obligations.RecvConfigLatchesDropRate : Prop :=
  ∀ (p : Pkt) (s : State) (now : Time), SndOpen s now → (Instr.config p).wellFormed = true →
    (∀ pct more, p.payload = pct :: more →
      exec (.config p) s = .next { s with
        lastNow := now
        ini := { s.ini with phase := .tchk, peerDropPct := pct, peerDropValid := true }
        out := onlyStatus .configLatched
        iniQueue := s.iniQueue.tail }) ∧
    (p.payload = [] →
      exec (.config p) s = .next { s with
        lastNow := now, ini := { s.ini with phase := .tchk }, out := onlyStatus .ignored, iniQueue := s.iniQueue.tail })

/-- R227, R230 and R231 in every state that meets the invariant of R42: what an ACK with `ack > 0` leaves, register by register. The samples kept are the last ten,
the timeout is recomputed once, the acknowledged run is evicted, the base becomes `min(max(base, ack), nextSeq)`, and the timer restarts or stops
exactly when something was acknowledged. That a register which then holds no value keeps its last one is the model's choice (log entry 4). -/
def Obligations.AckReleasesEverythingBelowIt : Prop :=
  ∀ (p : Pkt) (s : State) (now : Time) (new left : List Pending) (samples samp : List Time),
    SndOpen s now → IniInv s → 0 < p.ack →
    new = s.ini.pend.filter (fun e => e.seq < p.ack) → left = s.ini.pend.filter (fun e => p.ack ≤ e.seq) →
    samples = new.map (fun e => now - e.sendTime) →
    samp = (s.ini.samp ++ samples).drop ((s.ini.samp ++ samples).length - 10) →
    exec (.ack p) s = .next { s with
      lastNow := now
      ini := { s.ini with
        phase := .tchk
        samp := samp
        rto := if new ≠ [] ∧ samp.length = 10 then 5 * ((sortAscending samp).getD 5 0).toNat else s.ini.rto
        pend := left
        base := if p.ack ≤ s.ini.base then s.ini.base else if s.ini.nextSeq ≤ p.ack then s.ini.nextSeq else p.ack
        bytesInFlight := BitVec.ofNat 9 (pendingBytes left)
        timerRunning := if new = [] then s.ini.timerRunning else !left.isEmpty
        timerStart := if new ≠ [] ∧ left ≠ [] then now else s.ini.timerStart }
      out := { Output.empty with
        status := some (if new = [] then .ackStale else .acked)
        stats := samples.map StatEvent.rtt }
      iniQueue := s.iniQueue.tail }

/-- R236: in every state that meets the invariant, an ACK at or below the base changes nothing but the phase, and says so. -/
def Obligations.StaleAckChangesNothingButPhase : Prop :=
  ∀ (p : Pkt) (s : State) (now : Time), SndOpen s now → IniInv s → 0 < p.ack → p.ack ≤ s.ini.base →
    exec (.ack p) s = .next { s with
      lastNow := now, ini := { s.ini with phase := .tchk }, out := onlyStatus .ackStale, iniQueue := s.iniQueue.tail }

/-- R232 and R233: SND.TCHK. When the timer runs and more than the timeout has passed, every unacknowledged entry's stored bytes go out, in ascending order; else
only the phase changes. That the buffer ascends is a premise, which the invariant of R42 gives (log entry 13). -/
def Obligations.TimeoutRetransmitsTheWholeWindow : Prop :=
  ∀ (s : State) (rest : List Action) (now : Time) (again : List Pending),
    s.script = .op (.sndTchk now) :: rest → SndEnabled s .tchk now → ascending Pending.key s.ini.pend = true →
    again = s.ini.pend.filter (fun e => !e.acked) →
    again.Pairwise (fun e e' => e.seq < e'.seq) ∧
    (s.ini.timerRunning = true → s.ini.timerStart ≤ now → s.ini.rto < now.toNat - s.ini.timerStart.toNat →
      step s = .next { s with
        script := rest
        lastNow := now
        ini := { s.ini with
          phase := .fill
          pend := s.ini.pend.map (fun e => if e.acked then e else { e with sendTime := now, retries := e.retries + 1 })
          retransmits := s.ini.retransmits + BitVec.ofNat 32 again.length
          totalSent := s.ini.totalSent + BitVec.ofNat 32 again.length
          timerStart := now }
        out := { Output.empty with status := some .retransmitted, tx := again.map Pending.raw }
        toRsp := s.toRsp ++ again.map Pending.raw }) ∧
    ((s.ini.timerRunning = false ∨ s.ini.timerStart ≤ now ∧ now.toNat - s.ini.timerStart.toNat ≤ s.ini.rto) →
      step s = .next { s with
        script := rest, lastNow := now, ini := { s.ini with phase := .fill }, out := onlyStatus .noTimeout })

/-- R81 and R233: while a packet stays in the buffer its stored datagram does not change. -/
def Obligations.StoredDatagramNeverChanges : Prop :=
  ∀ s t, step s = .next t → IniInv s → s.ini.conn = .established → t.ini.conn = .established →
    ∀ e ∈ s.ini.pend, ∀ e' ∈ t.ini.pend, e'.seq = e.seq →
      e'.raw = e.raw ∧ e'.size = e.size ∧ e'.start = e.start ∧ e'.stop = e.stop

/-- R42 (f) and R230: while the session lasts the base never decreases. -/
def Obligations.BaseNeverDecreases : Prop :=
  ∀ s t, step s = .next t → IniInv s → s.ini.conn = .established → t.ini.conn = .established → s.ini.base ≤ t.ini.base

/-! ## Timeout Controller -/

/-- R162: the recomputation. With ten samples the timeout is five times the element at index 5 of an ascending arrangement of them; with any other count nothing changes. -/
def Obligations.RecomputeTakesSixthSmallest : Prop :=
  ∀ i : Initiator,
    (i.samp.length = 10 →
      ∃ l : List Time, l.Perm i.samp ∧ l.Pairwise (· ≤ ·) ∧ tcRecompute i = { i with rto := 5 * (l.getD 5 0).toNat }) ∧
    (i.samp.length ≠ 10 → tcRecompute i = i)

/-- R161: the sample window keeps the last ten, oldest first. -/
def Obligations.RecordSampleKeepsTheLastTen : Prop :=
  ∀ (i : Initiator) (rtt : Time), i.samp.length ≤ 10 →
    tcRecordSample rtt i = { i with samp := (i.samp ++ [rtt]).drop (i.samp.length + 1 - 10) }

/-- R160, R163, R164 and R165: TC.INIT, TC.CURRENT_TIMEOUT, TC.BACKOFF, and the strict comparison of TC.EXPIRED. -/
def Obligations.TimeoutRegisterOperations : Prop :=
  ∀ (p : Params) (i : Initiator) (start now : Time),
    tcInit p i = { i with rto := 300 * p.ticksPerMs, samp := [] } ∧
    tcCurrentTimeout i = i.rto ∧
    tcBackoff i = { i with rto := 2 * i.rto } ∧
    (start ≤ now → (tcExpired i start now = true ↔ i.rto < now.toNat - start.toNat))

/-! ## Host operations -/

/-- R350 with R40, and R351 with R41: the two resets, in every state. The registers that R40 leaves without a value are not stated.
That these operations return no status is the model's reading of R310 (log entry 12). -/
def Obligations.ResetsGiveTheListedValues : Prop :=
  ∀ (s : State) (rest : List Action),
    (s.script = .op .iniReset :: rest → ∃ i, step s = .next { s with script := rest, out := Output.empty, ini := i } ∧
      i.target = 0 ∧ i.rto = 300 * s.par.ticksPerMs ∧ i.samp = [] ∧ i.conn = .closed ∧ i.attempts = 0 ∧ i.base = 0 ∧
      i.nextSeq = 0 ∧ i.bytesInFlight = 0 ∧ i.pend = [] ∧ i.timerRunning = false ∧ i.initialSent = 0 ∧ i.retransmits = 0 ∧
      i.totalSent = 0 ∧ i.hsFailed = false ∧ i.xferDone = false ∧ i.peerDropValid = false) ∧
    (s.script = .op .rspReset :: rest →
      step s = .next { s with script := rest, out := Output.empty, rsp := ⟨0, [], 0, 0, 0, 0⟩ })

/-- R40 and R41 at the machine's own reset state: the listed registers of both units. -/
def Obligations.ResetStateHasTheListedValues : Prop :=
  let i := State.reset.ini
  (i.target = 0 ∧ i.rto = 300 * State.reset.par.ticksPerMs ∧ i.samp = [] ∧ i.conn = .closed ∧ i.attempts = 0 ∧ i.base = 0 ∧
    i.nextSeq = 0 ∧ i.bytesInFlight = 0 ∧ i.pend = [] ∧ i.timerRunning = false ∧ i.initialSent = 0 ∧ i.retransmits = 0 ∧
    i.totalSent = 0 ∧ i.hsFailed = false ∧ i.xferDone = false ∧ i.peerDropValid = false) ∧
  State.reset.rsp = ⟨0, [], 0, 0, 0, 0⟩

/-- R353 and R270: the configuration writes; a drop rate above 100 is refused. That the writes return no status is the model's reading of
R310 (log entry 12). -/
def Obligations.ConfigurationWrites : Prop :=
  ∀ (s : State) (rest : List Action) (target : Seq) (pct : Byte),
    (s.script = .op (.iniCfgWrite target) :: rest → s.ini.conn = .closed →
      step s = .next { s with script := rest, out := Output.empty, ini := { s.ini with target := target } }) ∧
    (s.script = .op (.rspCfgWrite pct) :: rest → pct.toNat ≤ 100 →
      step s = .next { s with script := rest, out := Output.empty, rsp := { s.rsp with dropPct := pct } }) ∧
    (s.script = .op (.rspCfgWrite pct) :: rest → 100 < pct.toNat → step s = .refused .dropPctAbove100)

/-- R143 and R16: a directly invoked HC.* operation answers from its operands alone and changes no unit. That it returns no status is the model's
reading of R310 (log entry 12). -/
def Obligations.CodecOperationsChangeNoUnit : Prop :=
  ∀ (s : State) (rest : List Action) (h : Header) (d : Datagram),
    (s.script = .op (.hcEncode h) :: rest → step s = .next { s with
      script := rest, out := { Output.empty with codec := some (.encoded (hcEncode h)) } }) ∧
    (s.script = .op (.hcDecode d) :: rest → ∃ c, step s = .next { s with
      script := rest, out := { Output.empty with codec := some c } } ∧
      (∀ x, hcDecode d = .ok x → c = .decoded x) ∧ ∀ e, hcDecode d = .error e → c = .failed e) ∧
    (s.script = .op (.hcParse d) :: rest → ∃ c, step s = .next { s with
      script := rest, out := { Output.empty with codec := some c } } ∧
      (∀ x, decode d = .ok x → c = .parsed x) ∧ ∀ e, decode d = .error e → c = .failed e)

/-! ## The environment -/

/-- R75: what the channel and other senders do changes no unit's registers and no output; a delivery adds a copy of a datagram in flight to the end of the addressed
unit's queue and leaves it in flight; a loss removes one. The form of these actions is the model's own (log entry 10). -/
def Obligations.ChannelDeliversCopiesAndTouchesNoUnit : Prop :=
  ∀ (s : State) (k : Nat) (a : Addr) (d : Datagram),
    (∀ x, s.toRsp[k]? = some x → runEnv (.deliverRsp k) s = { s with rspQueue := s.rspQueue ++ [(s.par.iniAddr, x)] }) ∧
    (∀ x, s.toIni[k]? = some (s.par.iniAddr, x) → runEnv (.deliverIni k) s = { s with iniQueue := s.iniQueue ++ [x] }) ∧
    (∀ b x, s.toIni[k]? = some (b, x) → b ≠ s.par.iniAddr → runEnv (.deliverIni k) s = s) ∧
    runEnv (.loseRsp k) s = { s with toRsp := s.toRsp.eraseIdx k } ∧
    runEnv (.loseIni k) s = { s with toIni := s.toIni.eraseIdx k } ∧
    runEnv (.injectRsp a d) s = { s with rspQueue := s.rspQueue ++ [(a, d)] } ∧
    runEnv (.injectIni d) s = { s with iniQueue := s.iniQueue ++ [d] }

/-- R70: the source payload memory. A byte the environment writes within the length reads back, every other byte reads as before, a write past the end
changes nothing, and the canonical form is kept. -/
def Obligations.SourceMemoryReadsBackAndStaysCanonical : Prop :=
  ∀ (s : State) (addr : Nat) (b : Byte), s.srcWf = true →
    (runEnv (.srcWrite addr b) s).srcWf = true ∧
    (addr < s.srcLen → (runEnv (.srcWrite addr b) s).src.read addr = b) ∧
    (∀ a, a ≠ addr → (runEnv (.srcWrite addr b) s).src.read a = s.src.read a) ∧
    (s.srcLen ≤ addr → runEnv (.srcWrite addr b) s = s) ∧
    ∀ len, (runEnv (.srcResize len) s).srcWf = true ∧
      ∀ a, a < len → (runEnv (.srcResize len) s).src.read a = s.src.read a

/-- R70: no operation writes the source payload memory, and where it meets the launch premise no operation reads past its end: a step never faults. -/
def Obligations.SufficientSourceMemoryMeansNoFault : Prop :=
  ∀ s : State,
    (srcSuffices s → noFault (step s)) ∧
    ∀ t o rest, s.script = .op o :: rest → step s = .next t → t.srcLen = s.srcLen ∧ ∀ a, t.src.read a = s.src.read a

/-- R16, R70, R83 and R316: from every state that meets the invariant, each operation of the initiator that is enabled completes, whatever it is offered, when `now` does
not run backwards (R13), the chunk draw is in its range (R15) and the source payload memory meets the launch premise. -/
def Obligations.EnabledInitiatorOperationsComplete : Prop :=
  ∀ (s : State) (rest : List Action) (now : Time), IniInv s → srcSuffices s → s.lastNow ≤ now →
    ((∃ isn, s.script = .op (.iniConnect now isn) :: rest ∧ s.ini.conn = .closed) ∨
     (∃ offer isn2, s.script = .op (.iniHsStep now offer isn2) :: rest ∧ s.ini.conn = .synSent) ∨
     (∃ chunk, s.script = .op (.sndFill now chunk) :: rest ∧ s.ini.conn = .established ∧ s.ini.phase = .fill ∧
        40 ≤ chunk ∧ chunk ≤ 80) ∨
     (∃ offer, s.script = .op (.sndRecv now offer) :: rest ∧ s.ini.conn = .established ∧ s.ini.phase = .recv) ∨
     (s.script = .op (.sndTchk now) :: rest ∧ s.ini.conn = .established ∧ s.ini.phase = .tchk)) →
    ∃ t, step s = .next t ∧ t.lastNow = now

/-! ## Whole-machine statements -/

/-- R42, with the handshake's own registers (R23, R164) and R167: from every state that meets the invariant of the Initiator unit, every step keeps it. -/
def Obligations.EveryStepKeepsTheInitiatorInvariant : Prop :=
  ∀ s t, IniInv s → step s = .next t → IniInv t

/-- R43, R29 and the capacity of R30: every step keeps the invariant of the Responder unit. -/
def Obligations.EveryStepKeepsTheResponderInvariant : Prop :=
  ∀ s t, RspInv s → step s = .next t → RspInv t

/-- Every step keeps the canonical form of the source payload memory (the model's form, log entry 7). -/
def Obligations.EveryStepKeepsTheMemoryCanonical : Prop :=
  ∀ s t, s.srcWf = true → step s = .next t → t.srcWf = true

/-- The three invariants hold at reset. -/
def Obligations.InvariantsHoldAtReset : Prop :=
  IniInv State.reset ∧ RspInv State.reset ∧ State.reset.srcWf = true

/-- R2, R20 and R78: the two units share no state, and no operation changes a parameter. An operation of one unit leaves the other's registers as they are, and an
action of the environment leaves both. -/
def Obligations.UnitsShareNothing : Prop :=
  ∀ s t, step s = .next t → t.par = s.par ∧
    (∀ o rest, s.script = .op o :: rest → o.ofInitiator = false → t.ini = s.ini) ∧
    (∀ o rest, s.script = .op o :: rest → o.ofResponder = false → t.rsp = s.rsp) ∧
    (∀ e rest, s.script = .env e :: rest → t.ini = s.ini ∧ t.rsp = s.rsp ∧ t.out = s.out)

/-- R75 and R78: the Initiator unit learns nothing of the responder, of what is in flight, or of the responder's queue but through the datagrams it is offered: two states that
agree on the initiator's registers, its queue, the source payload memory, the clock and the parameters answer an operation of the initiator
with the same registers, the same outputs and the same queue, and agree again in all of these. -/
def Obligations.InitiatorSeesOnlyItsOwnSide : Prop :=
  ∀ (s₁ s₂ t₁ : State) (o : Operation) (rest : List Action),
    o.ofInitiator = true → s₁.script = .op o :: rest → s₂.script = .op o :: rest →
    s₁.par = s₂.par → s₁.ini = s₂.ini → s₁.srcLen = s₂.srcLen → s₁.src = s₂.src → s₁.iniQueue = s₂.iniQueue →
    s₁.lastNow = s₂.lastNow → s₁.freeCount = s₂.freeCount → step s₁ = .next t₁ →
    ∃ t₂, step s₂ = .next t₂ ∧ t₂.ini = t₁.ini ∧ t₂.out = t₁.out ∧ t₂.iniQueue = t₁.iniQueue ∧
      t₂.par = t₁.par ∧ t₂.srcLen = t₁.srcLen ∧ t₂.src = t₁.src ∧ t₂.lastNow = t₁.lastNow ∧ t₂.freeCount = t₁.freeCount ∧
      t₂.script = t₁.script

/-- R13 and R373: a timed operation of the initiator with a `now` below an earlier one is refused, and no step turns the clock back. -/
def Obligations.TimeNeverRunsBackwards : Prop :=
  (∀ s t, step s = .next t → s.lastNow ≤ t.lastNow) ∧
  ∀ (s t : State) (rest : List Action) (now : Time), now < s.lastNow →
    ((∃ isn, s.script = .op (.iniConnect now isn) :: rest) ∨ (∃ offer isn2, s.script = .op (.iniHsStep now offer isn2) :: rest) ∨
     (∃ chunk, s.script = .op (.sndFill now chunk) :: rest) ∨ (∃ offer, s.script = .op (.sndRecv now offer) :: rest) ∨
     s.script = .op (.sndTchk now) :: rest) → step s ≠ .next t
end

