-- ==== Sys2Proof/Laws/Codec.lean ====
section
/-! SUPPORT. Small lemmas of the Header Codec and of the bytes of originated packets (spec/40_header_codec.md, spec/30_encoding.md R108 to R115). -/

namespace Sys2Proof

@[simp] theorem be16_length (v : Seq) : (be16 v).length = 2 := rfl

@[simp] theorem hcEncode_length (h : Header) : (hcEncode h).length = 8 := rfl

@[simp] theorem encode_length (i : Instr) : (encode i).length = 8 + i.pkt.payload.length := by
  simp [encode]

/-- `from_be16(b0, b1) = b0 * 256 + b1` (R11). -/
theorem fromBe16_toNat (b0 b1 : Byte) : (fromBe16 b0 b1).toNat = b0.toNat * 256 + b1.toNat := by
  unfold fromBe16
  rw [BitVec.toNat_append, ← Nat.shiftLeft_add_eq_or_of_lt b1.isLt, Nat.shiftLeft_eq]

/-- The decoder finds the field that the encoder split in two bytes (R102, R103). -/
@[simp] theorem fromBe16_be16 (v : Seq) : fromBe16 (v.extractLsb' 8 8) (v.extractLsb' 0 8) = v := by
  apply BitVec.eq_of_toNat_eq
  rw [fromBe16_toNat]
  simp only [BitVec.extractLsb'_toNat, Nat.shiftRight_eq_div_pow]
  omega

/-- `be16` in arithmetic: the quotient and the remainder by 256 (R11). -/
theorem be16_eq (v : Seq) : be16 v = [BitVec.ofNat 8 (v.toNat / 256), BitVec.ofNat 8 (v.toNat % 256)] := by
  have h1 : v.extractLsb' 8 8 = BitVec.ofNat 8 (v.toNat / 256) := by
    apply BitVec.eq_of_toNat_eq
    simp [BitVec.extractLsb'_toNat, Nat.shiftRight_eq_div_pow]
  have h2 : v.extractLsb' 0 8 = BitVec.ofNat 8 (v.toNat % 256) := by
    apply BitVec.eq_of_toNat_eq
    simp [BitVec.extractLsb'_toNat]
  simp [be16, h1, h2]

/-- Byte 0 in its two halves (R103, R105). -/
theorem typeByte_halves (t : BitVec 4) : (typeByte t).extractLsb' 4 4 = t ∧ (typeByte t).extractLsb' 0 4 = 0xF#4 := by
  revert t; decide

theorem ofCode_code (i : Instr) : Instr.ofCode i.code i.pkt = i := by cases i <;> rfl

/-- Every type code is the code of the packet it makes (R104, R106). -/
@[simp] theorem code_ofCode (t : BitVec 4) (p : Pkt) : (Instr.ofCode t p).code = t := by
  obtain ⟨⟨n, hn⟩⟩ := t
  interval_cases n <;> rfl

@[simp] theorem pkt_ofCode (t : BitVec 4) (p : Pkt) : (Instr.ofCode t p).pkt = p := by
  unfold Instr.ofCode
  split <;> rfl

/-- HC.DECODE on a datagram of at least eight bytes (R141). -/
@[simp] theorem hcDecode_cons (d0 d1 d2 d3 d4 d5 d6 d7 : Byte) (rest : Datagram) :
    hcDecode (d0 :: d1 :: d2 :: d3 :: d4 :: d5 :: d6 :: d7 :: rest) =
      .ok ⟨d0.extractLsb' 4 4, fromBe16 d1 d2, fromBe16 d3 d4, fromBe16 d5 d6, d7⟩ := rfl

/-- HC.DECODE fails exactly on fewer than eight bytes (R141, R144). -/
theorem hcDecode_error {d : Datagram} {e : Malformed} : hcDecode d = .error e ↔ e = .shortHeader ∧ d.length < 8 := by
  rcases d with _ | ⟨_, _ | ⟨_, _ | ⟨_, _ | ⟨_, _ | ⟨_, _ | ⟨_, _ | ⟨_, _ | ⟨_, rest⟩⟩⟩⟩⟩⟩⟩⟩ <;>
    simp [hcDecode, eq_comm]

/-- Only DATA and CONFIG have a condition to be well-formed (R119). -/
theorem wellFormed_of_code {i : Instr} (h3 : i.code ≠ 3) (h6 : i.code ≠ 6) : i.wellFormed = true := by
  cases i <;> first | rfl | (exfalso; simp [Instr.code] at h3 h6)

end Sys2Proof

namespace Sys2Proof.Machine

/-- A header and payload in the bytes of R103, for the packets the engine originates (R116). -/
theorem hcEncode_eq_wire (t : BitVec 4) (sequence ack : Seq) (length : BitVec 8) (payload : List Byte) :
    hcEncode ⟨t, sequence, ack, 400, length⟩ ++ payload = wire (typeByte t) sequence ack length payload := by
  have h400 : be16 400 = [0x01, 0x90] := by decide
  simp only [hcEncode, wire, be16_eq sequence, be16_eq ack, h400]
  rfl

@[simp] theorem encode_mkSyn (isn : Seq) : encode (mkSyn isn) = wire 0x1F isn 0 0 [] := hcEncode_eq_wire 1 isn 0 0 []
@[simp] theorem encode_mkSynAck (l c : Seq) : encode (mkSynAck l c) = wire 0x2F l (c + 1) 0 [] := hcEncode_eq_wire 2 l (c + 1) 0 []
@[simp] theorem encode_mkHandshakeAck (n : Seq) : encode (mkHandshakeAck n) = wire 0x4F 0 (n + 1) 0 [] :=
  hcEncode_eq_wire 4 0 (n + 1) 0 []
@[simp] theorem encode_mkConfig (p : Byte) : encode (mkConfig p) = wire 0x6F 0 0 1 [p] := hcEncode_eq_wire 6 0 0 1 [p]
@[simp] theorem encode_mkData (n : Seq) (payload : List Byte) :
    encode (mkData n payload) = wire 0x3F n 0 (BitVec.ofNat 8 payload.length) payload := hcEncode_eq_wire 3 n 0 _ payload
@[simp] theorem encode_mkCumulativeAck (n : Seq) (ts : List Byte) :
    encode (mkCumulativeAck n ts) = wire 0x4F 0 n (BitVec.ofNat 8 ts.length) ts := hcEncode_eq_wire 4 0 n _ ts
@[simp] theorem encode_mkFin (n : Seq) : encode (mkFin n) = wire 0x5F n 0 0 [] := hcEncode_eq_wire 5 n 0 0 []
@[simp] theorem encode_mkFinAck (n : Seq) : encode (mkFinAck n) = wire 0x4F 0 (n + 1) 0 [] := hcEncode_eq_wire 4 0 (n + 1) 0 []

end Sys2Proof.Machine
end

