-- ==== Sys2Proof/Laws/Maps.lean ====
section
/-! SUPPORT. Finite maps held as ascending lists: what a lookup finds after a write or a removal, and that both keep the canonical form; the source
payload memory over them (spec/20_memory.md R70). -/

namespace Sys2Proof.Machine

variable {α : Type} {key : α → Nat}

@[simp] theorem findBy_nil (k : Nat) : findBy key k [] = none := rfl

theorem findBy_cons (k : Nat) (x : α) (l : List α) :
    findBy key k (x :: l) = if key x = k then some x else findBy key k l := by
  unfold findBy
  by_cases h : key x = k <;> simp [h]

/-- A lookup answers an entry of the list with that key. -/
theorem findBy_some {k : Nat} {l : List α} {x : α} (h : findBy key k l = some x) : key x = k ∧ x ∈ l := by
  unfold findBy at h
  exact ⟨by simpa using List.find?_some h, List.mem_of_find?_eq_some h⟩

theorem findBy_none {k : Nat} {l : List α} : findBy key k l = none ↔ ∀ x ∈ l, key x ≠ k := by
  simp [findBy]

/-- Reading back what was written. -/
@[simp] theorem findBy_putBy_self (x : α) (l : List α) : findBy key (key x) (putBy key x l) = some x := by
  induction l with
  | nil => simp [putBy, findBy_cons]
  | cons y ys ih =>
    unfold putBy
    split
    · simp [findBy_cons]
    · split
      · simp [findBy_cons]
      · rename_i h1 h2; simp [findBy_cons, ih, Ne.symm h2]

/-- A write leaves every other key alone. -/
theorem findBy_putBy_ne {k : Nat} {x : α} (h : key x ≠ k) (l : List α) : findBy key k (putBy key x l) = findBy key k l := by
  induction l with
  | nil => simp [putBy, findBy_cons, h]
  | cons y ys ih =>
    unfold putBy
    split
    · simp [findBy_cons, h]
    · split
      · rename_i _ h2; simp [findBy_cons, h, ← h2]
      · simp [findBy_cons, ih]

@[simp] theorem findBy_eraseBy_self (k : Nat) (l : List α) : findBy key k (eraseBy key k l) = none := by
  simp [findBy_none, eraseBy]

theorem findBy_eraseBy_ne {k j : Nat} (h : j ≠ k) (l : List α) : findBy key k (eraseBy key j l) = findBy key k l := by
  induction l with
  | nil => rfl
  | cons y ys ih =>
    unfold eraseBy at ih ⊢
    by_cases hy : key y = j
    · simp [findBy_cons, hy, ih, h]
    · have hb : (key y != j) = true := by simpa using hy
      rw [List.filter_cons, if_pos hb, findBy_cons, findBy_cons, ih]

/-- The canonical form, as a relation between neighbours and all that follow. -/
theorem ascending_iff_pairwise (l : List α) : ascending key l = true ↔ l.Pairwise (fun x y => key x < key y) := by
  induction l with
  | nil => simp [ascending]
  | cons x xs ih =>
    cases xs with
    | nil => simp [ascending]
    | cons y ys =>
      simp only [ascending, Bool.and_eq_true, decide_eq_true_eq, ih, List.pairwise_cons]
      constructor
      · rintro ⟨h, h1, h2⟩
        refine ⟨?_, h1, h2⟩
        intro z hz
        rcases List.mem_cons.mp hz with rfl | hz
        · exact h
        · exact lt_trans h (h1 z hz)
      · rintro ⟨h, h1, h2⟩
        exact ⟨h y (by simp), h1, h2⟩

theorem mem_putBy {x z : α} {l : List α} (h : z ∈ putBy key x l) : z = x ∨ z ∈ l := by
  induction l with
  | nil => simpa [putBy] using h
  | cons y ys ih =>
    unfold putBy at h
    split at h
    · simpa using h
    · split at h
      · rcases List.mem_cons.mp h with h | h <;> simp [h]
      · rcases List.mem_cons.mp h with h | h
        · simp [h]
        · rcases ih h with h | h <;> simp [h]

/-- A write keeps the canonical form. -/
theorem ascending_putBy (x : α) {l : List α} (h : ascending key l = true) : ascending key (putBy key x l) = true := by
  rw [ascending_iff_pairwise] at h ⊢
  induction l with
  | nil => simp [putBy]
  | cons y ys ih =>
    rw [List.pairwise_cons] at h
    unfold putBy
    split
    · rename_i hxy
      rw [List.pairwise_cons, List.pairwise_cons]
      refine ⟨?_, h.1, h.2⟩
      intro z hz
      rcases List.mem_cons.mp hz with rfl | hz
      · exact hxy
      · exact lt_trans hxy (h.1 z hz)
    · split
      · rename_i _ hxy
        rw [List.pairwise_cons]
        exact ⟨fun z hz => by rw [hxy]; exact h.1 z hz, h.2⟩
      · rename_i h1 h2
        rw [List.pairwise_cons]
        refine ⟨?_, ih h.2⟩
        intro z hz
        rcases mem_putBy hz with rfl | hz
        · omega
        · exact h.1 z hz

/-- A removal keeps the canonical form. -/
theorem ascending_eraseBy (k : Nat) {l : List α} (h : ascending key l = true) : ascending key (eraseBy key k l) = true := by
  rw [ascending_iff_pairwise] at h ⊢
  exact h.sublist List.filter_sublist

/-- A write under a key above all others is an append. -/
theorem putBy_append {x : α} {l : List α} (h : ∀ y ∈ l, key y < key x) : putBy key x l = l ++ [x] := by
  induction l with
  | nil => rfl
  | cons y ys ih =>
    have hy := h y (by simp)
    unfold putBy
    rw [if_neg (by omega), if_neg (by omega), ih (fun z hz => h z (by simp [hz]))]
    rfl

theorem length_putBy_le (x : α) (l : List α) : (putBy key x l).length ≤ l.length + 1 := by
  induction l with
  | nil => simp [putBy]
  | cons y ys ih => unfold putBy; split <;> [simp; (split <;> simp; omega)]

/-- A write under a key that is held does not lengthen the list. -/
theorem length_putBy_of_find {x : α} {l : List α} (ha : ascending key l = true) (h : findBy key (key x) l ≠ none) :
    (putBy key x l).length = l.length := by
  induction l with
  | nil => simp at h
  | cons y ys ih =>
    rw [ascending_iff_pairwise, List.pairwise_cons] at ha
    unfold putBy
    split
    · rename_i hxy
      exfalso; apply h; rw [findBy_none]
      intro z hz
      rcases List.mem_cons.mp hz with rfl | hz
      · omega
      · have := ha.1 z hz; omega
    · split
      · simp
      · rename_i h1 h2
        rw [List.length_cons, ih ((ascending_iff_pairwise ys).mpr ha.2), List.length_cons]
        rwa [findBy_cons, if_neg (by omega)] at h

/-! ## The source payload memory -/

/-- Reading one byte through the lookup. -/
theorem Memory.read_eq (m : Memory) (a : Nat) : m.read a = ((findBy Prod.fst a m).map Prod.snd).getD Memory.unlisted := by
  unfold Memory.read
  cases findBy Prod.fst a m <;> rfl

@[simp] theorem Memory.read_write_self (m : Memory) (a : Nat) (b : Byte) : (m.write a b).read a = b := by
  rw [Memory.read_eq]
  unfold Memory.write
  split
  · rename_i h; simp [h]
  · rw [show a = Prod.fst ((a, b) : Host.Cell) from rfl, findBy_putBy_self]; rfl

theorem Memory.read_write_ne {a a' : Nat} (h : a ≠ a') (m : Memory) (b : Byte) : (m.write a b).read a' = m.read a' := by
  rw [Memory.read_eq, Memory.read_eq]
  unfold Memory.write
  split
  · rw [findBy_eraseBy_ne h]
  · rw [findBy_putBy_ne (key := Prod.fst) (x := (a, b)) (by simpa using h)]

/-- A write keeps the canonical form. -/
theorem Memory.wf_write {m : Memory} (h : m.wf = true) (a : Nat) (b : Byte) : (m.write a b).wf = true := by
  unfold Memory.wf at h ⊢
  rw [Bool.and_eq_true] at h ⊢
  unfold Memory.write
  split
  · refine ⟨ascending_eraseBy _ h.1, ?_⟩
    rw [List.all_eq_true] at h ⊢
    intro c hc
    exact h.2 c (List.mem_filter.mp hc).1
  · rename_i hb
    refine ⟨ascending_putBy _ h.1, ?_⟩
    rw [List.all_eq_true] at h ⊢
    intro c hc
    rcases mem_putBy hc with rfl | hc
    · simpa using hb
    · exact h.2 c hc

/-- Keeping the bytes below a length keeps the canonical form. -/
theorem Memory.wf_truncate {m : Memory} (h : m.wf = true) (len : Nat) : (m.truncate len).wf = true := by
  unfold Memory.wf at h ⊢
  rw [Bool.and_eq_true, ascending_iff_pairwise] at h ⊢
  refine ⟨h.1.sublist List.filter_sublist, ?_⟩
  rw [List.all_eq_true] at h ⊢
  intro c hc
  exact h.2 c (List.mem_filter.mp hc).1

theorem Memory.read_truncate {a len : Nat} (h : a < len) (m : Memory) : (m.truncate len).read a = m.read a := by
  have : findBy Prod.fst a (m.truncate len) = findBy Prod.fst a m := by
    unfold Memory.truncate
    induction m with
    | nil => rfl
    | cons c cs ih =>
      by_cases hc : c.1 < len
      · simp [hc, findBy_cons, ih]
      · have : c.1 ≠ a := by omega
        simp [hc, findBy_cons, ih, this]
  unfold Memory.read
  rw [this]

@[simp] theorem Memory.length_slice (m : Memory) (start n : Nat) : (m.slice start n).length = n := by
  induction n generalizing start with
  | zero => rfl
  | succ n ih => simp [Memory.slice, ih]

/-- A slice, byte by byte (R225). -/
theorem Memory.slice_eq_map (m : Memory) (start n : Nat) :
    m.slice start n = (List.range n).map (fun k => m.read (start + k)) := by
  induction n generalizing start with
  | zero => rfl
  | succ n ih =>
    rw [Memory.slice, ih, List.range_succ_eq_map, List.map_cons, List.map_map]
    simp only [Nat.add_zero, Function.comp_def]
    congr 1
    apply List.map_congr_left
    intro k _
    congr 1
    omega

/-! ## The peer table (R30) -/

@[simp] theorem Responder.find_put_self (r : Responder) (p : Peer) : (r.put p).find p.addr = some p :=
  findBy_putBy_self (key := Peer.key) p r.peers

theorem Responder.find_put_ne (r : Responder) {p : Peer} {a : Addr} (h : p.addr ≠ a) : (r.put p).find a = r.find a :=
  findBy_putBy_ne (key := Peer.key) h r.peers

@[simp] theorem Responder.find_free_self (r : Responder) (a : Addr) : (r.free a).find a = none :=
  findBy_eraseBy_self a r.peers

theorem Responder.find_free_ne (r : Responder) {a b : Addr} (h : a ≠ b) : (r.free a).find b = r.find b :=
  findBy_eraseBy_ne h r.peers

/-- A record found for an address has that address (R82). -/
theorem Responder.find_addr {r : Responder} {a : Addr} {p : Peer} (h : r.find a = some p) : p.addr = a :=
  (findBy_some h).1

@[simp] theorem Responder.find_countDrop (r : Responder) (a : Addr) : r.countDrop.find a = r.find a := rfl
@[simp] theorem Responder.find_countReject (r : Responder) (a : Addr) : r.countReject.find a = r.find a := rfl
@[simp] theorem Responder.find_countMalformed (r : Responder) (a : Addr) : r.countMalformed.find a = r.find a := rfl
@[simp] theorem Responder.find_countOutOfOrder (r : Responder) (a : Addr) : r.countOutOfOrder.find a = r.find a := rfl

end Sys2Proof.Machine
end

