-- ==== Sys2Proof/Laws/State.lean ====
section
/-! SUPPORT. One lemma per field per named update of the state, and of the two units' own small updates, so that no later proof unfolds a record
update. -/

namespace Sys2Proof.Machine

/-! ### State.begin -/

@[simp] theorem State.begin_par (s : State) : (s.begin).par = s.par := rfl
@[simp] theorem State.begin_ini (s : State) : (s.begin).ini = s.ini := rfl
@[simp] theorem State.begin_rsp (s : State) : (s.begin).rsp = s.rsp := rfl
@[simp] theorem State.begin_out (s : State) : (s.begin).out = Output.empty := rfl
@[simp] theorem State.begin_srcLen (s : State) : (s.begin).srcLen = s.srcLen := rfl
@[simp] theorem State.begin_src (s : State) : (s.begin).src = s.src := rfl
@[simp] theorem State.begin_iniQueue (s : State) : (s.begin).iniQueue = s.iniQueue := rfl
@[simp] theorem State.begin_rspQueue (s : State) : (s.begin).rspQueue = s.rspQueue := rfl
@[simp] theorem State.begin_toRsp (s : State) : (s.begin).toRsp = s.toRsp := rfl
@[simp] theorem State.begin_toIni (s : State) : (s.begin).toIni = s.toIni := rfl
@[simp] theorem State.begin_lastNow (s : State) : (s.begin).lastNow = s.lastNow := rfl
@[simp] theorem State.begin_script (s : State) : (s.begin).script = s.script := rfl
@[simp] theorem State.begin_rxOp (s : State) : (s.begin).rxOp = s.rxOp := rfl
@[simp] theorem State.begin_freeCount (s : State) : (s.begin).freeCount = s.freeCount := rfl

/-! ### State.setIni -/

@[simp] theorem State.setIni_par (s : State) (i : Initiator) : (s.setIni i).par = s.par := rfl
@[simp] theorem State.setIni_ini (s : State) (i : Initiator) : (s.setIni i).ini = i := rfl
@[simp] theorem State.setIni_rsp (s : State) (i : Initiator) : (s.setIni i).rsp = s.rsp := rfl
@[simp] theorem State.setIni_out (s : State) (i : Initiator) : (s.setIni i).out = s.out := rfl
@[simp] theorem State.setIni_srcLen (s : State) (i : Initiator) : (s.setIni i).srcLen = s.srcLen := rfl
@[simp] theorem State.setIni_src (s : State) (i : Initiator) : (s.setIni i).src = s.src := rfl
@[simp] theorem State.setIni_iniQueue (s : State) (i : Initiator) : (s.setIni i).iniQueue = s.iniQueue := rfl
@[simp] theorem State.setIni_rspQueue (s : State) (i : Initiator) : (s.setIni i).rspQueue = s.rspQueue := rfl
@[simp] theorem State.setIni_toRsp (s : State) (i : Initiator) : (s.setIni i).toRsp = s.toRsp := rfl
@[simp] theorem State.setIni_toIni (s : State) (i : Initiator) : (s.setIni i).toIni = s.toIni := rfl
@[simp] theorem State.setIni_lastNow (s : State) (i : Initiator) : (s.setIni i).lastNow = s.lastNow := rfl
@[simp] theorem State.setIni_script (s : State) (i : Initiator) : (s.setIni i).script = s.script := rfl
@[simp] theorem State.setIni_rxOp (s : State) (i : Initiator) : (s.setIni i).rxOp = s.rxOp := rfl
@[simp] theorem State.setIni_freeCount (s : State) (i : Initiator) : (s.setIni i).freeCount = s.freeCount := rfl

/-! ### State.setRsp -/

@[simp] theorem State.setRsp_par (s : State) (r : Responder) : (s.setRsp r).par = s.par := rfl
@[simp] theorem State.setRsp_ini (s : State) (r : Responder) : (s.setRsp r).ini = s.ini := rfl
@[simp] theorem State.setRsp_rsp (s : State) (r : Responder) : (s.setRsp r).rsp = r := rfl
@[simp] theorem State.setRsp_out (s : State) (r : Responder) : (s.setRsp r).out = s.out := rfl
@[simp] theorem State.setRsp_srcLen (s : State) (r : Responder) : (s.setRsp r).srcLen = s.srcLen := rfl
@[simp] theorem State.setRsp_src (s : State) (r : Responder) : (s.setRsp r).src = s.src := rfl
@[simp] theorem State.setRsp_iniQueue (s : State) (r : Responder) : (s.setRsp r).iniQueue = s.iniQueue := rfl
@[simp] theorem State.setRsp_rspQueue (s : State) (r : Responder) : (s.setRsp r).rspQueue = s.rspQueue := rfl
@[simp] theorem State.setRsp_toRsp (s : State) (r : Responder) : (s.setRsp r).toRsp = s.toRsp := rfl
@[simp] theorem State.setRsp_toIni (s : State) (r : Responder) : (s.setRsp r).toIni = s.toIni := rfl
@[simp] theorem State.setRsp_lastNow (s : State) (r : Responder) : (s.setRsp r).lastNow = s.lastNow := rfl
@[simp] theorem State.setRsp_script (s : State) (r : Responder) : (s.setRsp r).script = s.script := rfl
@[simp] theorem State.setRsp_rxOp (s : State) (r : Responder) : (s.setRsp r).rxOp = s.rxOp := rfl
@[simp] theorem State.setRsp_freeCount (s : State) (r : Responder) : (s.setRsp r).freeCount = s.freeCount := rfl

/-! ### State.setStatus -/

@[simp] theorem State.setStatus_par (s : State) (x : Status) : (s.setStatus x).par = s.par := rfl
@[simp] theorem State.setStatus_ini (s : State) (x : Status) : (s.setStatus x).ini = s.ini := rfl
@[simp] theorem State.setStatus_rsp (s : State) (x : Status) : (s.setStatus x).rsp = s.rsp := rfl
@[simp] theorem State.setStatus_out (s : State) (x : Status) : (s.setStatus x).out = { s.out with status := some x } := rfl
@[simp] theorem State.setStatus_srcLen (s : State) (x : Status) : (s.setStatus x).srcLen = s.srcLen := rfl
@[simp] theorem State.setStatus_src (s : State) (x : Status) : (s.setStatus x).src = s.src := rfl
@[simp] theorem State.setStatus_iniQueue (s : State) (x : Status) : (s.setStatus x).iniQueue = s.iniQueue := rfl
@[simp] theorem State.setStatus_rspQueue (s : State) (x : Status) : (s.setStatus x).rspQueue = s.rspQueue := rfl
@[simp] theorem State.setStatus_toRsp (s : State) (x : Status) : (s.setStatus x).toRsp = s.toRsp := rfl
@[simp] theorem State.setStatus_toIni (s : State) (x : Status) : (s.setStatus x).toIni = s.toIni := rfl
@[simp] theorem State.setStatus_lastNow (s : State) (x : Status) : (s.setStatus x).lastNow = s.lastNow := rfl
@[simp] theorem State.setStatus_script (s : State) (x : Status) : (s.setStatus x).script = s.script := rfl
@[simp] theorem State.setStatus_rxOp (s : State) (x : Status) : (s.setStatus x).rxOp = s.rxOp := rfl
@[simp] theorem State.setStatus_freeCount (s : State) (x : Status) : (s.setStatus x).freeCount = s.freeCount := rfl

/-! ### State.emitTx -/

@[simp] theorem State.emitTx_par (s : State) (d : Datagram) : (s.emitTx d).par = s.par := rfl
@[simp] theorem State.emitTx_ini (s : State) (d : Datagram) : (s.emitTx d).ini = s.ini := rfl
@[simp] theorem State.emitTx_rsp (s : State) (d : Datagram) : (s.emitTx d).rsp = s.rsp := rfl
@[simp] theorem State.emitTx_out (s : State) (d : Datagram) : (s.emitTx d).out = { s.out with tx := s.out.tx ++ [d] } := rfl
@[simp] theorem State.emitTx_srcLen (s : State) (d : Datagram) : (s.emitTx d).srcLen = s.srcLen := rfl
@[simp] theorem State.emitTx_src (s : State) (d : Datagram) : (s.emitTx d).src = s.src := rfl
@[simp] theorem State.emitTx_iniQueue (s : State) (d : Datagram) : (s.emitTx d).iniQueue = s.iniQueue := rfl
@[simp] theorem State.emitTx_rspQueue (s : State) (d : Datagram) : (s.emitTx d).rspQueue = s.rspQueue := rfl
@[simp] theorem State.emitTx_toRsp (s : State) (d : Datagram) : (s.emitTx d).toRsp = s.toRsp ++ [d] := rfl
@[simp] theorem State.emitTx_toIni (s : State) (d : Datagram) : (s.emitTx d).toIni = s.toIni := rfl
@[simp] theorem State.emitTx_lastNow (s : State) (d : Datagram) : (s.emitTx d).lastNow = s.lastNow := rfl
@[simp] theorem State.emitTx_script (s : State) (d : Datagram) : (s.emitTx d).script = s.script := rfl
@[simp] theorem State.emitTx_rxOp (s : State) (d : Datagram) : (s.emitTx d).rxOp = s.rxOp := rfl
@[simp] theorem State.emitTx_freeCount (s : State) (d : Datagram) : (s.emitTx d).freeCount = s.freeCount := rfl

/-! ### State.emitReply -/

@[simp] theorem State.emitReply_par (s : State) (a : Addr) (d : Datagram) : (s.emitReply a d).par = s.par := rfl
@[simp] theorem State.emitReply_ini (s : State) (a : Addr) (d : Datagram) : (s.emitReply a d).ini = s.ini := rfl
@[simp] theorem State.emitReply_rsp (s : State) (a : Addr) (d : Datagram) : (s.emitReply a d).rsp = s.rsp := rfl
@[simp] theorem State.emitReply_out (s : State) (a : Addr) (d : Datagram) : (s.emitReply a d).out = { s.out with reply := s.out.reply ++ [(a, d)] } := rfl
@[simp] theorem State.emitReply_srcLen (s : State) (a : Addr) (d : Datagram) : (s.emitReply a d).srcLen = s.srcLen := rfl
@[simp] theorem State.emitReply_src (s : State) (a : Addr) (d : Datagram) : (s.emitReply a d).src = s.src := rfl
@[simp] theorem State.emitReply_iniQueue (s : State) (a : Addr) (d : Datagram) : (s.emitReply a d).iniQueue = s.iniQueue := rfl
@[simp] theorem State.emitReply_rspQueue (s : State) (a : Addr) (d : Datagram) : (s.emitReply a d).rspQueue = s.rspQueue := rfl
@[simp] theorem State.emitReply_toRsp (s : State) (a : Addr) (d : Datagram) : (s.emitReply a d).toRsp = s.toRsp := rfl
@[simp] theorem State.emitReply_toIni (s : State) (a : Addr) (d : Datagram) : (s.emitReply a d).toIni = s.toIni ++ [(a, d)] := rfl
@[simp] theorem State.emitReply_lastNow (s : State) (a : Addr) (d : Datagram) : (s.emitReply a d).lastNow = s.lastNow := rfl
@[simp] theorem State.emitReply_script (s : State) (a : Addr) (d : Datagram) : (s.emitReply a d).script = s.script := rfl
@[simp] theorem State.emitReply_rxOp (s : State) (a : Addr) (d : Datagram) : (s.emitReply a d).rxOp = s.rxOp := rfl
@[simp] theorem State.emitReply_freeCount (s : State) (a : Addr) (d : Datagram) : (s.emitReply a d).freeCount = s.freeCount := rfl

/-! ### State.emitStat -/

@[simp] theorem State.emitStat_par (s : State) (e : StatEvent) : (s.emitStat e).par = s.par := rfl
@[simp] theorem State.emitStat_ini (s : State) (e : StatEvent) : (s.emitStat e).ini = s.ini := rfl
@[simp] theorem State.emitStat_rsp (s : State) (e : StatEvent) : (s.emitStat e).rsp = s.rsp := rfl
@[simp] theorem State.emitStat_out (s : State) (e : StatEvent) : (s.emitStat e).out = { s.out with stats := s.out.stats ++ [e] } := rfl
@[simp] theorem State.emitStat_srcLen (s : State) (e : StatEvent) : (s.emitStat e).srcLen = s.srcLen := rfl
@[simp] theorem State.emitStat_src (s : State) (e : StatEvent) : (s.emitStat e).src = s.src := rfl
@[simp] theorem State.emitStat_iniQueue (s : State) (e : StatEvent) : (s.emitStat e).iniQueue = s.iniQueue := rfl
@[simp] theorem State.emitStat_rspQueue (s : State) (e : StatEvent) : (s.emitStat e).rspQueue = s.rspQueue := rfl
@[simp] theorem State.emitStat_toRsp (s : State) (e : StatEvent) : (s.emitStat e).toRsp = s.toRsp := rfl
@[simp] theorem State.emitStat_toIni (s : State) (e : StatEvent) : (s.emitStat e).toIni = s.toIni := rfl
@[simp] theorem State.emitStat_lastNow (s : State) (e : StatEvent) : (s.emitStat e).lastNow = s.lastNow := rfl
@[simp] theorem State.emitStat_script (s : State) (e : StatEvent) : (s.emitStat e).script = s.script := rfl
@[simp] theorem State.emitStat_rxOp (s : State) (e : StatEvent) : (s.emitStat e).rxOp = s.rxOp := rfl
@[simp] theorem State.emitStat_freeCount (s : State) (e : StatEvent) : (s.emitStat e).freeCount = s.freeCount := rfl

/-! ### State.emitDeliver -/

@[simp] theorem State.emitDeliver_par (s : State) (e : Delivery) : (s.emitDeliver e).par = s.par := rfl
@[simp] theorem State.emitDeliver_ini (s : State) (e : Delivery) : (s.emitDeliver e).ini = s.ini := rfl
@[simp] theorem State.emitDeliver_rsp (s : State) (e : Delivery) : (s.emitDeliver e).rsp = s.rsp := rfl
@[simp] theorem State.emitDeliver_out (s : State) (e : Delivery) : (s.emitDeliver e).out = { s.out with delivered := s.out.delivered ++ [e] } := rfl
@[simp] theorem State.emitDeliver_srcLen (s : State) (e : Delivery) : (s.emitDeliver e).srcLen = s.srcLen := rfl
@[simp] theorem State.emitDeliver_src (s : State) (e : Delivery) : (s.emitDeliver e).src = s.src := rfl
@[simp] theorem State.emitDeliver_iniQueue (s : State) (e : Delivery) : (s.emitDeliver e).iniQueue = s.iniQueue := rfl
@[simp] theorem State.emitDeliver_rspQueue (s : State) (e : Delivery) : (s.emitDeliver e).rspQueue = s.rspQueue := rfl
@[simp] theorem State.emitDeliver_toRsp (s : State) (e : Delivery) : (s.emitDeliver e).toRsp = s.toRsp := rfl
@[simp] theorem State.emitDeliver_toIni (s : State) (e : Delivery) : (s.emitDeliver e).toIni = s.toIni := rfl
@[simp] theorem State.emitDeliver_lastNow (s : State) (e : Delivery) : (s.emitDeliver e).lastNow = s.lastNow := rfl
@[simp] theorem State.emitDeliver_script (s : State) (e : Delivery) : (s.emitDeliver e).script = s.script := rfl
@[simp] theorem State.emitDeliver_rxOp (s : State) (e : Delivery) : (s.emitDeliver e).rxOp = s.rxOp := rfl
@[simp] theorem State.emitDeliver_freeCount (s : State) (e : Delivery) : (s.emitDeliver e).freeCount = s.freeCount := rfl

/-! ### State.setCodec -/

@[simp] theorem State.setCodec_par (s : State) (c : CodecResult) : (s.setCodec c).par = s.par := rfl
@[simp] theorem State.setCodec_ini (s : State) (c : CodecResult) : (s.setCodec c).ini = s.ini := rfl
@[simp] theorem State.setCodec_rsp (s : State) (c : CodecResult) : (s.setCodec c).rsp = s.rsp := rfl
@[simp] theorem State.setCodec_out (s : State) (c : CodecResult) : (s.setCodec c).out = { s.out with codec := some c } := rfl
@[simp] theorem State.setCodec_srcLen (s : State) (c : CodecResult) : (s.setCodec c).srcLen = s.srcLen := rfl
@[simp] theorem State.setCodec_src (s : State) (c : CodecResult) : (s.setCodec c).src = s.src := rfl
@[simp] theorem State.setCodec_iniQueue (s : State) (c : CodecResult) : (s.setCodec c).iniQueue = s.iniQueue := rfl
@[simp] theorem State.setCodec_rspQueue (s : State) (c : CodecResult) : (s.setCodec c).rspQueue = s.rspQueue := rfl
@[simp] theorem State.setCodec_toRsp (s : State) (c : CodecResult) : (s.setCodec c).toRsp = s.toRsp := rfl
@[simp] theorem State.setCodec_toIni (s : State) (c : CodecResult) : (s.setCodec c).toIni = s.toIni := rfl
@[simp] theorem State.setCodec_lastNow (s : State) (c : CodecResult) : (s.setCodec c).lastNow = s.lastNow := rfl
@[simp] theorem State.setCodec_script (s : State) (c : CodecResult) : (s.setCodec c).script = s.script := rfl
@[simp] theorem State.setCodec_rxOp (s : State) (c : CodecResult) : (s.setCodec c).rxOp = s.rxOp := rfl
@[simp] theorem State.setCodec_freeCount (s : State) (c : CodecResult) : (s.setCodec c).freeCount = s.freeCount := rfl

/-! ### State.popIni -/

@[simp] theorem State.popIni_par (s : State) : (s.popIni).par = s.par := rfl
@[simp] theorem State.popIni_ini (s : State) : (s.popIni).ini = s.ini := rfl
@[simp] theorem State.popIni_rsp (s : State) : (s.popIni).rsp = s.rsp := rfl
@[simp] theorem State.popIni_out (s : State) : (s.popIni).out = s.out := rfl
@[simp] theorem State.popIni_srcLen (s : State) : (s.popIni).srcLen = s.srcLen := rfl
@[simp] theorem State.popIni_src (s : State) : (s.popIni).src = s.src := rfl
@[simp] theorem State.popIni_iniQueue (s : State) : (s.popIni).iniQueue = s.iniQueue.tail := rfl
@[simp] theorem State.popIni_rspQueue (s : State) : (s.popIni).rspQueue = s.rspQueue := rfl
@[simp] theorem State.popIni_toRsp (s : State) : (s.popIni).toRsp = s.toRsp := rfl
@[simp] theorem State.popIni_toIni (s : State) : (s.popIni).toIni = s.toIni := rfl
@[simp] theorem State.popIni_lastNow (s : State) : (s.popIni).lastNow = s.lastNow := rfl
@[simp] theorem State.popIni_script (s : State) : (s.popIni).script = s.script := rfl
@[simp] theorem State.popIni_rxOp (s : State) : (s.popIni).rxOp = s.rxOp := rfl
@[simp] theorem State.popIni_freeCount (s : State) : (s.popIni).freeCount = s.freeCount := rfl

/-! ### State.popRsp -/

@[simp] theorem State.popRsp_par (s : State) : (s.popRsp).par = s.par := rfl
@[simp] theorem State.popRsp_ini (s : State) : (s.popRsp).ini = s.ini := rfl
@[simp] theorem State.popRsp_rsp (s : State) : (s.popRsp).rsp = s.rsp := rfl
@[simp] theorem State.popRsp_out (s : State) : (s.popRsp).out = s.out := rfl
@[simp] theorem State.popRsp_srcLen (s : State) : (s.popRsp).srcLen = s.srcLen := rfl
@[simp] theorem State.popRsp_src (s : State) : (s.popRsp).src = s.src := rfl
@[simp] theorem State.popRsp_iniQueue (s : State) : (s.popRsp).iniQueue = s.iniQueue := rfl
@[simp] theorem State.popRsp_rspQueue (s : State) : (s.popRsp).rspQueue = s.rspQueue.tail := rfl
@[simp] theorem State.popRsp_toRsp (s : State) : (s.popRsp).toRsp = s.toRsp := rfl
@[simp] theorem State.popRsp_toIni (s : State) : (s.popRsp).toIni = s.toIni := rfl
@[simp] theorem State.popRsp_lastNow (s : State) : (s.popRsp).lastNow = s.lastNow := rfl
@[simp] theorem State.popRsp_script (s : State) : (s.popRsp).script = s.script := rfl
@[simp] theorem State.popRsp_rxOp (s : State) : (s.popRsp).rxOp = s.rxOp := rfl
@[simp] theorem State.popRsp_freeCount (s : State) : (s.popRsp).freeCount = s.freeCount := rfl

/-! ### State.touch -/

@[simp] theorem State.touch_par (s : State) (now : Time) : (s.touch now).par = s.par := rfl
@[simp] theorem State.touch_ini (s : State) (now : Time) : (s.touch now).ini = s.ini := rfl
@[simp] theorem State.touch_rsp (s : State) (now : Time) : (s.touch now).rsp = s.rsp := rfl
@[simp] theorem State.touch_out (s : State) (now : Time) : (s.touch now).out = s.out := rfl
@[simp] theorem State.touch_srcLen (s : State) (now : Time) : (s.touch now).srcLen = s.srcLen := rfl
@[simp] theorem State.touch_src (s : State) (now : Time) : (s.touch now).src = s.src := rfl
@[simp] theorem State.touch_iniQueue (s : State) (now : Time) : (s.touch now).iniQueue = s.iniQueue := rfl
@[simp] theorem State.touch_rspQueue (s : State) (now : Time) : (s.touch now).rspQueue = s.rspQueue := rfl
@[simp] theorem State.touch_toRsp (s : State) (now : Time) : (s.touch now).toRsp = s.toRsp := rfl
@[simp] theorem State.touch_toIni (s : State) (now : Time) : (s.touch now).toIni = s.toIni := rfl
@[simp] theorem State.touch_lastNow (s : State) (now : Time) : (s.touch now).lastNow = now := rfl
@[simp] theorem State.touch_script (s : State) (now : Time) : (s.touch now).script = s.script := rfl
@[simp] theorem State.touch_rxOp (s : State) (now : Time) : (s.touch now).rxOp = s.rxOp := rfl
@[simp] theorem State.touch_freeCount (s : State) (now : Time) : (s.touch now).freeCount = s.freeCount := rfl

/-! ### Initiator.countInitial -/

@[simp] theorem Initiator.countInitial_target (i : Initiator) : (i.countInitial).target = i.target := rfl
@[simp] theorem Initiator.countInitial_rto (i : Initiator) : (i.countInitial).rto = i.rto := rfl
@[simp] theorem Initiator.countInitial_samp (i : Initiator) : (i.countInitial).samp = i.samp := rfl
@[simp] theorem Initiator.countInitial_conn (i : Initiator) : (i.countInitial).conn = i.conn := rfl
@[simp] theorem Initiator.countInitial_isn (i : Initiator) : (i.countInitial).isn = i.isn := rfl
@[simp] theorem Initiator.countInitial_attempts (i : Initiator) : (i.countInitial).attempts = i.attempts := rfl
@[simp] theorem Initiator.countInitial_synTime (i : Initiator) : (i.countInitial).synTime = i.synTime := rfl
@[simp] theorem Initiator.countInitial_serverSeq (i : Initiator) : (i.countInitial).serverSeq = i.serverSeq := rfl
@[simp] theorem Initiator.countInitial_phase (i : Initiator) : (i.countInitial).phase = i.phase := rfl
@[simp] theorem Initiator.countInitial_base (i : Initiator) : (i.countInitial).base = i.base := rfl
@[simp] theorem Initiator.countInitial_nextSeq (i : Initiator) : (i.countInitial).nextSeq = i.nextSeq := rfl
@[simp] theorem Initiator.countInitial_bytesInFlight (i : Initiator) : (i.countInitial).bytesInFlight = i.bytesInFlight := rfl
@[simp] theorem Initiator.countInitial_pend (i : Initiator) : (i.countInitial).pend = i.pend := rfl
@[simp] theorem Initiator.countInitial_timerRunning (i : Initiator) : (i.countInitial).timerRunning = i.timerRunning := rfl
@[simp] theorem Initiator.countInitial_timerStart (i : Initiator) : (i.countInitial).timerStart = i.timerStart := rfl
@[simp] theorem Initiator.countInitial_initialSent (i : Initiator) : (i.countInitial).initialSent = i.initialSent + 1 := rfl
@[simp] theorem Initiator.countInitial_retransmits (i : Initiator) : (i.countInitial).retransmits = i.retransmits := rfl
@[simp] theorem Initiator.countInitial_totalSent (i : Initiator) : (i.countInitial).totalSent = i.totalSent + 1 := rfl
@[simp] theorem Initiator.countInitial_hsFailed (i : Initiator) : (i.countInitial).hsFailed = i.hsFailed := rfl
@[simp] theorem Initiator.countInitial_xferDone (i : Initiator) : (i.countInitial).xferDone = i.xferDone := rfl
@[simp] theorem Initiator.countInitial_peerDropValid (i : Initiator) : (i.countInitial).peerDropValid = i.peerDropValid := rfl
@[simp] theorem Initiator.countInitial_peerDropPct (i : Initiator) : (i.countInitial).peerDropPct = i.peerDropPct := rfl

/-! ### Initiator.countRetransmit -/

@[simp] theorem Initiator.countRetransmit_target (i : Initiator) : (i.countRetransmit).target = i.target := rfl
@[simp] theorem Initiator.countRetransmit_rto (i : Initiator) : (i.countRetransmit).rto = i.rto := rfl
@[simp] theorem Initiator.countRetransmit_samp (i : Initiator) : (i.countRetransmit).samp = i.samp := rfl
@[simp] theorem Initiator.countRetransmit_conn (i : Initiator) : (i.countRetransmit).conn = i.conn := rfl
@[simp] theorem Initiator.countRetransmit_isn (i : Initiator) : (i.countRetransmit).isn = i.isn := rfl
@[simp] theorem Initiator.countRetransmit_attempts (i : Initiator) : (i.countRetransmit).attempts = i.attempts := rfl
@[simp] theorem Initiator.countRetransmit_synTime (i : Initiator) : (i.countRetransmit).synTime = i.synTime := rfl
@[simp] theorem Initiator.countRetransmit_serverSeq (i : Initiator) : (i.countRetransmit).serverSeq = i.serverSeq := rfl
@[simp] theorem Initiator.countRetransmit_phase (i : Initiator) : (i.countRetransmit).phase = i.phase := rfl
@[simp] theorem Initiator.countRetransmit_base (i : Initiator) : (i.countRetransmit).base = i.base := rfl
@[simp] theorem Initiator.countRetransmit_nextSeq (i : Initiator) : (i.countRetransmit).nextSeq = i.nextSeq := rfl
@[simp] theorem Initiator.countRetransmit_bytesInFlight (i : Initiator) : (i.countRetransmit).bytesInFlight = i.bytesInFlight := rfl
@[simp] theorem Initiator.countRetransmit_pend (i : Initiator) : (i.countRetransmit).pend = i.pend := rfl
@[simp] theorem Initiator.countRetransmit_timerRunning (i : Initiator) : (i.countRetransmit).timerRunning = i.timerRunning := rfl
@[simp] theorem Initiator.countRetransmit_timerStart (i : Initiator) : (i.countRetransmit).timerStart = i.timerStart := rfl
@[simp] theorem Initiator.countRetransmit_initialSent (i : Initiator) : (i.countRetransmit).initialSent = i.initialSent := rfl
@[simp] theorem Initiator.countRetransmit_retransmits (i : Initiator) : (i.countRetransmit).retransmits = i.retransmits + 1 := rfl
@[simp] theorem Initiator.countRetransmit_totalSent (i : Initiator) : (i.countRetransmit).totalSent = i.totalSent + 1 := rfl
@[simp] theorem Initiator.countRetransmit_hsFailed (i : Initiator) : (i.countRetransmit).hsFailed = i.hsFailed := rfl
@[simp] theorem Initiator.countRetransmit_xferDone (i : Initiator) : (i.countRetransmit).xferDone = i.xferDone := rfl
@[simp] theorem Initiator.countRetransmit_peerDropValid (i : Initiator) : (i.countRetransmit).peerDropValid = i.peerDropValid := rfl
@[simp] theorem Initiator.countRetransmit_peerDropPct (i : Initiator) : (i.countRetransmit).peerDropPct = i.peerDropPct := rfl

/-! ### Initiator.clearWindow -/

@[simp] theorem Initiator.clearWindow_target (i : Initiator) : (i.clearWindow).target = i.target := rfl
@[simp] theorem Initiator.clearWindow_rto (i : Initiator) : (i.clearWindow).rto = i.rto := rfl
@[simp] theorem Initiator.clearWindow_samp (i : Initiator) : (i.clearWindow).samp = i.samp := rfl
@[simp] theorem Initiator.clearWindow_conn (i : Initiator) : (i.clearWindow).conn = i.conn := rfl
@[simp] theorem Initiator.clearWindow_isn (i : Initiator) : (i.clearWindow).isn = i.isn := rfl
@[simp] theorem Initiator.clearWindow_attempts (i : Initiator) : (i.clearWindow).attempts = i.attempts := rfl
@[simp] theorem Initiator.clearWindow_synTime (i : Initiator) : (i.clearWindow).synTime = i.synTime := rfl
@[simp] theorem Initiator.clearWindow_serverSeq (i : Initiator) : (i.clearWindow).serverSeq = i.serverSeq := rfl
@[simp] theorem Initiator.clearWindow_phase (i : Initiator) : (i.clearWindow).phase = i.phase := rfl
@[simp] theorem Initiator.clearWindow_base (i : Initiator) : (i.clearWindow).base = 0 := rfl
@[simp] theorem Initiator.clearWindow_nextSeq (i : Initiator) : (i.clearWindow).nextSeq = 0 := rfl
@[simp] theorem Initiator.clearWindow_bytesInFlight (i : Initiator) : (i.clearWindow).bytesInFlight = 0 := rfl
@[simp] theorem Initiator.clearWindow_pend (i : Initiator) : (i.clearWindow).pend = [] := rfl
@[simp] theorem Initiator.clearWindow_timerRunning (i : Initiator) : (i.clearWindow).timerRunning = false := rfl
@[simp] theorem Initiator.clearWindow_timerStart (i : Initiator) : (i.clearWindow).timerStart = i.timerStart := rfl
@[simp] theorem Initiator.clearWindow_initialSent (i : Initiator) : (i.clearWindow).initialSent = i.initialSent := rfl
@[simp] theorem Initiator.clearWindow_retransmits (i : Initiator) : (i.clearWindow).retransmits = i.retransmits := rfl
@[simp] theorem Initiator.clearWindow_totalSent (i : Initiator) : (i.clearWindow).totalSent = i.totalSent := rfl
@[simp] theorem Initiator.clearWindow_hsFailed (i : Initiator) : (i.clearWindow).hsFailed = i.hsFailed := rfl
@[simp] theorem Initiator.clearWindow_xferDone (i : Initiator) : (i.clearWindow).xferDone = i.xferDone := rfl
@[simp] theorem Initiator.clearWindow_peerDropValid (i : Initiator) : (i.clearWindow).peerDropValid = i.peerDropValid := rfl
@[simp] theorem Initiator.clearWindow_peerDropPct (i : Initiator) : (i.clearWindow).peerDropPct = i.peerDropPct := rfl

/-! ### Initiator.clearFlags -/

@[simp] theorem Initiator.clearFlags_target (i : Initiator) : (i.clearFlags).target = i.target := rfl
@[simp] theorem Initiator.clearFlags_rto (i : Initiator) : (i.clearFlags).rto = i.rto := rfl
@[simp] theorem Initiator.clearFlags_samp (i : Initiator) : (i.clearFlags).samp = i.samp := rfl
@[simp] theorem Initiator.clearFlags_conn (i : Initiator) : (i.clearFlags).conn = i.conn := rfl
@[simp] theorem Initiator.clearFlags_isn (i : Initiator) : (i.clearFlags).isn = i.isn := rfl
@[simp] theorem Initiator.clearFlags_attempts (i : Initiator) : (i.clearFlags).attempts = i.attempts := rfl
@[simp] theorem Initiator.clearFlags_synTime (i : Initiator) : (i.clearFlags).synTime = i.synTime := rfl
@[simp] theorem Initiator.clearFlags_serverSeq (i : Initiator) : (i.clearFlags).serverSeq = i.serverSeq := rfl
@[simp] theorem Initiator.clearFlags_phase (i : Initiator) : (i.clearFlags).phase = i.phase := rfl
@[simp] theorem Initiator.clearFlags_base (i : Initiator) : (i.clearFlags).base = i.base := rfl
@[simp] theorem Initiator.clearFlags_nextSeq (i : Initiator) : (i.clearFlags).nextSeq = i.nextSeq := rfl
@[simp] theorem Initiator.clearFlags_bytesInFlight (i : Initiator) : (i.clearFlags).bytesInFlight = i.bytesInFlight := rfl
@[simp] theorem Initiator.clearFlags_pend (i : Initiator) : (i.clearFlags).pend = i.pend := rfl
@[simp] theorem Initiator.clearFlags_timerRunning (i : Initiator) : (i.clearFlags).timerRunning = i.timerRunning := rfl
@[simp] theorem Initiator.clearFlags_timerStart (i : Initiator) : (i.clearFlags).timerStart = i.timerStart := rfl
@[simp] theorem Initiator.clearFlags_initialSent (i : Initiator) : (i.clearFlags).initialSent = i.initialSent := rfl
@[simp] theorem Initiator.clearFlags_retransmits (i : Initiator) : (i.clearFlags).retransmits = i.retransmits := rfl
@[simp] theorem Initiator.clearFlags_totalSent (i : Initiator) : (i.clearFlags).totalSent = i.totalSent := rfl
@[simp] theorem Initiator.clearFlags_hsFailed (i : Initiator) : (i.clearFlags).hsFailed = false := rfl
@[simp] theorem Initiator.clearFlags_xferDone (i : Initiator) : (i.clearFlags).xferDone = false := rfl
@[simp] theorem Initiator.clearFlags_peerDropValid (i : Initiator) : (i.clearFlags).peerDropValid = false := rfl
@[simp] theorem Initiator.clearFlags_peerDropPct (i : Initiator) : (i.clearFlags).peerDropPct = i.peerDropPct := rfl

/-! ### Initiator.latchDrop -/

@[simp] theorem Initiator.latchDrop_target (i : Initiator) (pct : Byte) : (i.latchDrop pct).target = i.target := rfl
@[simp] theorem Initiator.latchDrop_rto (i : Initiator) (pct : Byte) : (i.latchDrop pct).rto = i.rto := rfl
@[simp] theorem Initiator.latchDrop_samp (i : Initiator) (pct : Byte) : (i.latchDrop pct).samp = i.samp := rfl
@[simp] theorem Initiator.latchDrop_conn (i : Initiator) (pct : Byte) : (i.latchDrop pct).conn = i.conn := rfl
@[simp] theorem Initiator.latchDrop_isn (i : Initiator) (pct : Byte) : (i.latchDrop pct).isn = i.isn := rfl
@[simp] theorem Initiator.latchDrop_attempts (i : Initiator) (pct : Byte) : (i.latchDrop pct).attempts = i.attempts := rfl
@[simp] theorem Initiator.latchDrop_synTime (i : Initiator) (pct : Byte) : (i.latchDrop pct).synTime = i.synTime := rfl
@[simp] theorem Initiator.latchDrop_serverSeq (i : Initiator) (pct : Byte) : (i.latchDrop pct).serverSeq = i.serverSeq := rfl
@[simp] theorem Initiator.latchDrop_phase (i : Initiator) (pct : Byte) : (i.latchDrop pct).phase = i.phase := rfl
@[simp] theorem Initiator.latchDrop_base (i : Initiator) (pct : Byte) : (i.latchDrop pct).base = i.base := rfl
@[simp] theorem Initiator.latchDrop_nextSeq (i : Initiator) (pct : Byte) : (i.latchDrop pct).nextSeq = i.nextSeq := rfl
@[simp] theorem Initiator.latchDrop_bytesInFlight (i : Initiator) (pct : Byte) : (i.latchDrop pct).bytesInFlight = i.bytesInFlight := rfl
@[simp] theorem Initiator.latchDrop_pend (i : Initiator) (pct : Byte) : (i.latchDrop pct).pend = i.pend := rfl
@[simp] theorem Initiator.latchDrop_timerRunning (i : Initiator) (pct : Byte) : (i.latchDrop pct).timerRunning = i.timerRunning := rfl
@[simp] theorem Initiator.latchDrop_timerStart (i : Initiator) (pct : Byte) : (i.latchDrop pct).timerStart = i.timerStart := rfl
@[simp] theorem Initiator.latchDrop_initialSent (i : Initiator) (pct : Byte) : (i.latchDrop pct).initialSent = i.initialSent := rfl
@[simp] theorem Initiator.latchDrop_retransmits (i : Initiator) (pct : Byte) : (i.latchDrop pct).retransmits = i.retransmits := rfl
@[simp] theorem Initiator.latchDrop_totalSent (i : Initiator) (pct : Byte) : (i.latchDrop pct).totalSent = i.totalSent := rfl
@[simp] theorem Initiator.latchDrop_hsFailed (i : Initiator) (pct : Byte) : (i.latchDrop pct).hsFailed = i.hsFailed := rfl
@[simp] theorem Initiator.latchDrop_xferDone (i : Initiator) (pct : Byte) : (i.latchDrop pct).xferDone = i.xferDone := rfl
@[simp] theorem Initiator.latchDrop_peerDropValid (i : Initiator) (pct : Byte) : (i.latchDrop pct).peerDropValid = true := rfl
@[simp] theorem Initiator.latchDrop_peerDropPct (i : Initiator) (pct : Byte) : (i.latchDrop pct).peerDropPct = pct := rfl

/-! ### Initiator.restartTimer -/

@[simp] theorem Initiator.restartTimer_target (i : Initiator) (now : Time) : (i.restartTimer now).target = i.target := rfl
@[simp] theorem Initiator.restartTimer_rto (i : Initiator) (now : Time) : (i.restartTimer now).rto = i.rto := rfl
@[simp] theorem Initiator.restartTimer_samp (i : Initiator) (now : Time) : (i.restartTimer now).samp = i.samp := rfl
@[simp] theorem Initiator.restartTimer_conn (i : Initiator) (now : Time) : (i.restartTimer now).conn = i.conn := rfl
@[simp] theorem Initiator.restartTimer_isn (i : Initiator) (now : Time) : (i.restartTimer now).isn = i.isn := rfl
@[simp] theorem Initiator.restartTimer_attempts (i : Initiator) (now : Time) : (i.restartTimer now).attempts = i.attempts := rfl
@[simp] theorem Initiator.restartTimer_synTime (i : Initiator) (now : Time) : (i.restartTimer now).synTime = i.synTime := rfl
@[simp] theorem Initiator.restartTimer_serverSeq (i : Initiator) (now : Time) : (i.restartTimer now).serverSeq = i.serverSeq := rfl
@[simp] theorem Initiator.restartTimer_phase (i : Initiator) (now : Time) : (i.restartTimer now).phase = i.phase := rfl
@[simp] theorem Initiator.restartTimer_base (i : Initiator) (now : Time) : (i.restartTimer now).base = i.base := rfl
@[simp] theorem Initiator.restartTimer_nextSeq (i : Initiator) (now : Time) : (i.restartTimer now).nextSeq = i.nextSeq := rfl
@[simp] theorem Initiator.restartTimer_bytesInFlight (i : Initiator) (now : Time) : (i.restartTimer now).bytesInFlight = i.bytesInFlight := rfl
@[simp] theorem Initiator.restartTimer_pend (i : Initiator) (now : Time) : (i.restartTimer now).pend = i.pend := rfl
@[simp] theorem Initiator.restartTimer_timerRunning (i : Initiator) (now : Time) : (i.restartTimer now).timerRunning = i.timerRunning := rfl
@[simp] theorem Initiator.restartTimer_timerStart (i : Initiator) (now : Time) : (i.restartTimer now).timerStart = now := rfl
@[simp] theorem Initiator.restartTimer_initialSent (i : Initiator) (now : Time) : (i.restartTimer now).initialSent = i.initialSent := rfl
@[simp] theorem Initiator.restartTimer_retransmits (i : Initiator) (now : Time) : (i.restartTimer now).retransmits = i.retransmits := rfl
@[simp] theorem Initiator.restartTimer_totalSent (i : Initiator) (now : Time) : (i.restartTimer now).totalSent = i.totalSent := rfl
@[simp] theorem Initiator.restartTimer_hsFailed (i : Initiator) (now : Time) : (i.restartTimer now).hsFailed = i.hsFailed := rfl
@[simp] theorem Initiator.restartTimer_xferDone (i : Initiator) (now : Time) : (i.restartTimer now).xferDone = i.xferDone := rfl
@[simp] theorem Initiator.restartTimer_peerDropValid (i : Initiator) (now : Time) : (i.restartTimer now).peerDropValid = i.peerDropValid := rfl
@[simp] theorem Initiator.restartTimer_peerDropPct (i : Initiator) (now : Time) : (i.restartTimer now).peerDropPct = i.peerDropPct := rfl

/-! ### Initiator.connect -/

@[simp] theorem Initiator.connect_target (i : Initiator) (p : Params) (now : Time) (n : Seq) : (i.connect p now n).target = i.target := rfl
@[simp] theorem Initiator.connect_rto (i : Initiator) (p : Params) (now : Time) (n : Seq) : (i.connect p now n).rto = 300 * p.ticksPerMs := rfl
@[simp] theorem Initiator.connect_samp (i : Initiator) (p : Params) (now : Time) (n : Seq) : (i.connect p now n).samp = [] := rfl
@[simp] theorem Initiator.connect_conn (i : Initiator) (p : Params) (now : Time) (n : Seq) : (i.connect p now n).conn = .synSent := rfl
@[simp] theorem Initiator.connect_isn (i : Initiator) (p : Params) (now : Time) (n : Seq) : (i.connect p now n).isn = n := rfl
@[simp] theorem Initiator.connect_attempts (i : Initiator) (p : Params) (now : Time) (n : Seq) : (i.connect p now n).attempts = 1 := rfl
@[simp] theorem Initiator.connect_synTime (i : Initiator) (p : Params) (now : Time) (n : Seq) : (i.connect p now n).synTime = now := rfl
@[simp] theorem Initiator.connect_serverSeq (i : Initiator) (p : Params) (now : Time) (n : Seq) : (i.connect p now n).serverSeq = i.serverSeq := rfl
@[simp] theorem Initiator.connect_phase (i : Initiator) (p : Params) (now : Time) (n : Seq) : (i.connect p now n).phase = i.phase := rfl
@[simp] theorem Initiator.connect_base (i : Initiator) (p : Params) (now : Time) (n : Seq) : (i.connect p now n).base = 0 := rfl
@[simp] theorem Initiator.connect_nextSeq (i : Initiator) (p : Params) (now : Time) (n : Seq) : (i.connect p now n).nextSeq = 0 := rfl
@[simp] theorem Initiator.connect_bytesInFlight (i : Initiator) (p : Params) (now : Time) (n : Seq) : (i.connect p now n).bytesInFlight = 0 := rfl
@[simp] theorem Initiator.connect_pend (i : Initiator) (p : Params) (now : Time) (n : Seq) : (i.connect p now n).pend = [] := rfl
@[simp] theorem Initiator.connect_timerRunning (i : Initiator) (p : Params) (now : Time) (n : Seq) : (i.connect p now n).timerRunning = false := rfl
@[simp] theorem Initiator.connect_timerStart (i : Initiator) (p : Params) (now : Time) (n : Seq) : (i.connect p now n).timerStart = i.timerStart := rfl
@[simp] theorem Initiator.connect_initialSent (i : Initiator) (p : Params) (now : Time) (n : Seq) : (i.connect p now n).initialSent = 0 := rfl
@[simp] theorem Initiator.connect_retransmits (i : Initiator) (p : Params) (now : Time) (n : Seq) : (i.connect p now n).retransmits = 0 := rfl
@[simp] theorem Initiator.connect_totalSent (i : Initiator) (p : Params) (now : Time) (n : Seq) : (i.connect p now n).totalSent = 0 := rfl
@[simp] theorem Initiator.connect_hsFailed (i : Initiator) (p : Params) (now : Time) (n : Seq) : (i.connect p now n).hsFailed = false := rfl
@[simp] theorem Initiator.connect_xferDone (i : Initiator) (p : Params) (now : Time) (n : Seq) : (i.connect p now n).xferDone = false := rfl
@[simp] theorem Initiator.connect_peerDropValid (i : Initiator) (p : Params) (now : Time) (n : Seq) : (i.connect p now n).peerDropValid = false := rfl
@[simp] theorem Initiator.connect_peerDropPct (i : Initiator) (p : Params) (now : Time) (n : Seq) : (i.connect p now n).peerDropPct = i.peerDropPct := rfl

/-! ### Initiator.establish -/

@[simp] theorem Initiator.establish_target (i : Initiator) (n : Seq) : (i.establish n).target = i.target := rfl
@[simp] theorem Initiator.establish_rto (i : Initiator) (n : Seq) : (i.establish n).rto = i.rto := rfl
@[simp] theorem Initiator.establish_samp (i : Initiator) (n : Seq) : (i.establish n).samp = i.samp := rfl
@[simp] theorem Initiator.establish_conn (i : Initiator) (n : Seq) : (i.establish n).conn = .established := rfl
@[simp] theorem Initiator.establish_isn (i : Initiator) (n : Seq) : (i.establish n).isn = i.isn := rfl
@[simp] theorem Initiator.establish_attempts (i : Initiator) (n : Seq) : (i.establish n).attempts = i.attempts := rfl
@[simp] theorem Initiator.establish_synTime (i : Initiator) (n : Seq) : (i.establish n).synTime = i.synTime := rfl
@[simp] theorem Initiator.establish_serverSeq (i : Initiator) (n : Seq) : (i.establish n).serverSeq = n := rfl
@[simp] theorem Initiator.establish_phase (i : Initiator) (n : Seq) : (i.establish n).phase = .fill := rfl
@[simp] theorem Initiator.establish_base (i : Initiator) (n : Seq) : (i.establish n).base = 0 := rfl
@[simp] theorem Initiator.establish_nextSeq (i : Initiator) (n : Seq) : (i.establish n).nextSeq = 0 := rfl
@[simp] theorem Initiator.establish_bytesInFlight (i : Initiator) (n : Seq) : (i.establish n).bytesInFlight = 0 := rfl
@[simp] theorem Initiator.establish_pend (i : Initiator) (n : Seq) : (i.establish n).pend = [] := rfl
@[simp] theorem Initiator.establish_timerRunning (i : Initiator) (n : Seq) : (i.establish n).timerRunning = false := rfl
@[simp] theorem Initiator.establish_timerStart (i : Initiator) (n : Seq) : (i.establish n).timerStart = i.timerStart := rfl
@[simp] theorem Initiator.establish_initialSent (i : Initiator) (n : Seq) : (i.establish n).initialSent = i.initialSent := rfl
@[simp] theorem Initiator.establish_retransmits (i : Initiator) (n : Seq) : (i.establish n).retransmits = i.retransmits := rfl
@[simp] theorem Initiator.establish_totalSent (i : Initiator) (n : Seq) : (i.establish n).totalSent = i.totalSent := rfl
@[simp] theorem Initiator.establish_hsFailed (i : Initiator) (n : Seq) : (i.establish n).hsFailed = i.hsFailed := rfl
@[simp] theorem Initiator.establish_xferDone (i : Initiator) (n : Seq) : (i.establish n).xferDone = i.xferDone := rfl
@[simp] theorem Initiator.establish_peerDropValid (i : Initiator) (n : Seq) : (i.establish n).peerDropValid = i.peerDropValid := rfl
@[simp] theorem Initiator.establish_peerDropPct (i : Initiator) (n : Seq) : (i.establish n).peerDropPct = i.peerDropPct := rfl

/-! ### Responder.countDrop -/

@[simp] theorem Responder.countDrop_dropPct (r : Responder) : (r.countDrop).dropPct = r.dropPct := rfl
@[simp] theorem Responder.countDrop_peers (r : Responder) : (r.countDrop).peers = r.peers := rfl
@[simp] theorem Responder.countDrop_dropCount (r : Responder) : (r.countDrop).dropCount = r.dropCount + 1 := rfl
@[simp] theorem Responder.countDrop_rejectCount (r : Responder) : (r.countDrop).rejectCount = r.rejectCount := rfl
@[simp] theorem Responder.countDrop_malformedCount (r : Responder) : (r.countDrop).malformedCount = r.malformedCount := rfl
@[simp] theorem Responder.countDrop_oooCount (r : Responder) : (r.countDrop).oooCount = r.oooCount := rfl

/-! ### Responder.countReject -/

@[simp] theorem Responder.countReject_dropPct (r : Responder) : (r.countReject).dropPct = r.dropPct := rfl
@[simp] theorem Responder.countReject_peers (r : Responder) : (r.countReject).peers = r.peers := rfl
@[simp] theorem Responder.countReject_dropCount (r : Responder) : (r.countReject).dropCount = r.dropCount := rfl
@[simp] theorem Responder.countReject_rejectCount (r : Responder) : (r.countReject).rejectCount = r.rejectCount + 1 := rfl
@[simp] theorem Responder.countReject_malformedCount (r : Responder) : (r.countReject).malformedCount = r.malformedCount := rfl
@[simp] theorem Responder.countReject_oooCount (r : Responder) : (r.countReject).oooCount = r.oooCount := rfl

/-! ### Responder.countMalformed -/

@[simp] theorem Responder.countMalformed_dropPct (r : Responder) : (r.countMalformed).dropPct = r.dropPct := rfl
@[simp] theorem Responder.countMalformed_peers (r : Responder) : (r.countMalformed).peers = r.peers := rfl
@[simp] theorem Responder.countMalformed_dropCount (r : Responder) : (r.countMalformed).dropCount = r.dropCount := rfl
@[simp] theorem Responder.countMalformed_rejectCount (r : Responder) : (r.countMalformed).rejectCount = r.rejectCount := rfl
@[simp] theorem Responder.countMalformed_malformedCount (r : Responder) : (r.countMalformed).malformedCount = r.malformedCount + 1 := rfl
@[simp] theorem Responder.countMalformed_oooCount (r : Responder) : (r.countMalformed).oooCount = r.oooCount := rfl

/-! ### Responder.countOutOfOrder -/

@[simp] theorem Responder.countOutOfOrder_dropPct (r : Responder) : (r.countOutOfOrder).dropPct = r.dropPct := rfl
@[simp] theorem Responder.countOutOfOrder_peers (r : Responder) : (r.countOutOfOrder).peers = r.peers := rfl
@[simp] theorem Responder.countOutOfOrder_dropCount (r : Responder) : (r.countOutOfOrder).dropCount = r.dropCount := rfl
@[simp] theorem Responder.countOutOfOrder_rejectCount (r : Responder) : (r.countOutOfOrder).rejectCount = r.rejectCount := rfl
@[simp] theorem Responder.countOutOfOrder_malformedCount (r : Responder) : (r.countOutOfOrder).malformedCount = r.malformedCount := rfl
@[simp] theorem Responder.countOutOfOrder_oooCount (r : Responder) : (r.countOutOfOrder).oooCount = r.oooCount + 1 := rfl

/-! ### Responder.put -/

@[simp] theorem Responder.put_dropPct (r : Responder) (p : Peer) : (r.put p).dropPct = r.dropPct := rfl
@[simp] theorem Responder.put_peers (r : Responder) (p : Peer) : (r.put p).peers = putBy Peer.key p r.peers := rfl
@[simp] theorem Responder.put_dropCount (r : Responder) (p : Peer) : (r.put p).dropCount = r.dropCount := rfl
@[simp] theorem Responder.put_rejectCount (r : Responder) (p : Peer) : (r.put p).rejectCount = r.rejectCount := rfl
@[simp] theorem Responder.put_malformedCount (r : Responder) (p : Peer) : (r.put p).malformedCount = r.malformedCount := rfl
@[simp] theorem Responder.put_oooCount (r : Responder) (p : Peer) : (r.put p).oooCount = r.oooCount := rfl

/-! ### Responder.free -/

@[simp] theorem Responder.free_dropPct (r : Responder) (a : Addr) : (r.free a).dropPct = r.dropPct := rfl
@[simp] theorem Responder.free_peers (r : Responder) (a : Addr) : (r.free a).peers = eraseBy Peer.key a r.peers := rfl
@[simp] theorem Responder.free_dropCount (r : Responder) (a : Addr) : (r.free a).dropCount = r.dropCount := rfl
@[simp] theorem Responder.free_rejectCount (r : Responder) (a : Addr) : (r.free a).rejectCount = r.rejectCount := rfl
@[simp] theorem Responder.free_malformedCount (r : Responder) (a : Addr) : (r.free a).malformedCount = r.malformedCount := rfl
@[simp] theorem Responder.free_oooCount (r : Responder) (a : Addr) : (r.free a).oooCount = r.oooCount := rfl

/-! ### The timer (R222, R231): every field but the two of the timer -/

@[simp] theorem Initiator.startTimer_target (i : Initiator) (now : Time) : (i.startTimer now).target = i.target := by
  unfold Initiator.startTimer; split <;> rfl
@[simp] theorem Initiator.timerAfterAck_target (i : Initiator) (old : Seq) (now : Time) : (i.timerAfterAck old now).target = i.target := by
  unfold Initiator.timerAfterAck; (repeat' split) <;> rfl
@[simp] theorem Initiator.startTimer_rto (i : Initiator) (now : Time) : (i.startTimer now).rto = i.rto := by
  unfold Initiator.startTimer; split <;> rfl
@[simp] theorem Initiator.timerAfterAck_rto (i : Initiator) (old : Seq) (now : Time) : (i.timerAfterAck old now).rto = i.rto := by
  unfold Initiator.timerAfterAck; (repeat' split) <;> rfl
@[simp] theorem Initiator.startTimer_samp (i : Initiator) (now : Time) : (i.startTimer now).samp = i.samp := by
  unfold Initiator.startTimer; split <;> rfl
@[simp] theorem Initiator.timerAfterAck_samp (i : Initiator) (old : Seq) (now : Time) : (i.timerAfterAck old now).samp = i.samp := by
  unfold Initiator.timerAfterAck; (repeat' split) <;> rfl
@[simp] theorem Initiator.startTimer_conn (i : Initiator) (now : Time) : (i.startTimer now).conn = i.conn := by
  unfold Initiator.startTimer; split <;> rfl
@[simp] theorem Initiator.timerAfterAck_conn (i : Initiator) (old : Seq) (now : Time) : (i.timerAfterAck old now).conn = i.conn := by
  unfold Initiator.timerAfterAck; (repeat' split) <;> rfl
@[simp] theorem Initiator.startTimer_isn (i : Initiator) (now : Time) : (i.startTimer now).isn = i.isn := by
  unfold Initiator.startTimer; split <;> rfl
@[simp] theorem Initiator.timerAfterAck_isn (i : Initiator) (old : Seq) (now : Time) : (i.timerAfterAck old now).isn = i.isn := by
  unfold Initiator.timerAfterAck; (repeat' split) <;> rfl
@[simp] theorem Initiator.startTimer_attempts (i : Initiator) (now : Time) : (i.startTimer now).attempts = i.attempts := by
  unfold Initiator.startTimer; split <;> rfl
@[simp] theorem Initiator.timerAfterAck_attempts (i : Initiator) (old : Seq) (now : Time) : (i.timerAfterAck old now).attempts = i.attempts := by
  unfold Initiator.timerAfterAck; (repeat' split) <;> rfl
@[simp] theorem Initiator.startTimer_synTime (i : Initiator) (now : Time) : (i.startTimer now).synTime = i.synTime := by
  unfold Initiator.startTimer; split <;> rfl
@[simp] theorem Initiator.timerAfterAck_synTime (i : Initiator) (old : Seq) (now : Time) : (i.timerAfterAck old now).synTime = i.synTime := by
  unfold Initiator.timerAfterAck; (repeat' split) <;> rfl
@[simp] theorem Initiator.startTimer_serverSeq (i : Initiator) (now : Time) : (i.startTimer now).serverSeq = i.serverSeq := by
  unfold Initiator.startTimer; split <;> rfl
@[simp] theorem Initiator.timerAfterAck_serverSeq (i : Initiator) (old : Seq) (now : Time) : (i.timerAfterAck old now).serverSeq = i.serverSeq := by
  unfold Initiator.timerAfterAck; (repeat' split) <;> rfl
@[simp] theorem Initiator.startTimer_phase (i : Initiator) (now : Time) : (i.startTimer now).phase = i.phase := by
  unfold Initiator.startTimer; split <;> rfl
@[simp] theorem Initiator.timerAfterAck_phase (i : Initiator) (old : Seq) (now : Time) : (i.timerAfterAck old now).phase = i.phase := by
  unfold Initiator.timerAfterAck; (repeat' split) <;> rfl
@[simp] theorem Initiator.startTimer_base (i : Initiator) (now : Time) : (i.startTimer now).base = i.base := by
  unfold Initiator.startTimer; split <;> rfl
@[simp] theorem Initiator.timerAfterAck_base (i : Initiator) (old : Seq) (now : Time) : (i.timerAfterAck old now).base = i.base := by
  unfold Initiator.timerAfterAck; (repeat' split) <;> rfl
@[simp] theorem Initiator.startTimer_nextSeq (i : Initiator) (now : Time) : (i.startTimer now).nextSeq = i.nextSeq := by
  unfold Initiator.startTimer; split <;> rfl
@[simp] theorem Initiator.timerAfterAck_nextSeq (i : Initiator) (old : Seq) (now : Time) : (i.timerAfterAck old now).nextSeq = i.nextSeq := by
  unfold Initiator.timerAfterAck; (repeat' split) <;> rfl
@[simp] theorem Initiator.startTimer_bytesInFlight (i : Initiator) (now : Time) : (i.startTimer now).bytesInFlight = i.bytesInFlight := by
  unfold Initiator.startTimer; split <;> rfl
@[simp] theorem Initiator.timerAfterAck_bytesInFlight (i : Initiator) (old : Seq) (now : Time) : (i.timerAfterAck old now).bytesInFlight = i.bytesInFlight := by
  unfold Initiator.timerAfterAck; (repeat' split) <;> rfl
@[simp] theorem Initiator.startTimer_pend (i : Initiator) (now : Time) : (i.startTimer now).pend = i.pend := by
  unfold Initiator.startTimer; split <;> rfl
@[simp] theorem Initiator.timerAfterAck_pend (i : Initiator) (old : Seq) (now : Time) : (i.timerAfterAck old now).pend = i.pend := by
  unfold Initiator.timerAfterAck; (repeat' split) <;> rfl
@[simp] theorem Initiator.startTimer_initialSent (i : Initiator) (now : Time) : (i.startTimer now).initialSent = i.initialSent := by
  unfold Initiator.startTimer; split <;> rfl
@[simp] theorem Initiator.timerAfterAck_initialSent (i : Initiator) (old : Seq) (now : Time) : (i.timerAfterAck old now).initialSent = i.initialSent := by
  unfold Initiator.timerAfterAck; (repeat' split) <;> rfl
@[simp] theorem Initiator.startTimer_retransmits (i : Initiator) (now : Time) : (i.startTimer now).retransmits = i.retransmits := by
  unfold Initiator.startTimer; split <;> rfl
@[simp] theorem Initiator.timerAfterAck_retransmits (i : Initiator) (old : Seq) (now : Time) : (i.timerAfterAck old now).retransmits = i.retransmits := by
  unfold Initiator.timerAfterAck; (repeat' split) <;> rfl
@[simp] theorem Initiator.startTimer_totalSent (i : Initiator) (now : Time) : (i.startTimer now).totalSent = i.totalSent := by
  unfold Initiator.startTimer; split <;> rfl
@[simp] theorem Initiator.timerAfterAck_totalSent (i : Initiator) (old : Seq) (now : Time) : (i.timerAfterAck old now).totalSent = i.totalSent := by
  unfold Initiator.timerAfterAck; (repeat' split) <;> rfl
@[simp] theorem Initiator.startTimer_hsFailed (i : Initiator) (now : Time) : (i.startTimer now).hsFailed = i.hsFailed := by
  unfold Initiator.startTimer; split <;> rfl
@[simp] theorem Initiator.timerAfterAck_hsFailed (i : Initiator) (old : Seq) (now : Time) : (i.timerAfterAck old now).hsFailed = i.hsFailed := by
  unfold Initiator.timerAfterAck; (repeat' split) <;> rfl
@[simp] theorem Initiator.startTimer_xferDone (i : Initiator) (now : Time) : (i.startTimer now).xferDone = i.xferDone := by
  unfold Initiator.startTimer; split <;> rfl
@[simp] theorem Initiator.timerAfterAck_xferDone (i : Initiator) (old : Seq) (now : Time) : (i.timerAfterAck old now).xferDone = i.xferDone := by
  unfold Initiator.timerAfterAck; (repeat' split) <;> rfl
@[simp] theorem Initiator.startTimer_peerDropValid (i : Initiator) (now : Time) : (i.startTimer now).peerDropValid = i.peerDropValid := by
  unfold Initiator.startTimer; split <;> rfl
@[simp] theorem Initiator.timerAfterAck_peerDropValid (i : Initiator) (old : Seq) (now : Time) : (i.timerAfterAck old now).peerDropValid = i.peerDropValid := by
  unfold Initiator.timerAfterAck; (repeat' split) <;> rfl
@[simp] theorem Initiator.startTimer_peerDropPct (i : Initiator) (now : Time) : (i.startTimer now).peerDropPct = i.peerDropPct := by
  unfold Initiator.startTimer; split <;> rfl
@[simp] theorem Initiator.timerAfterAck_peerDropPct (i : Initiator) (old : Seq) (now : Time) : (i.timerAfterAck old now).peerDropPct = i.peerDropPct := by
  unfold Initiator.timerAfterAck; (repeat' split) <;> rfl

@[simp] theorem Initiator.startTimer_timerRunning (i : Initiator) (now : Time) : (i.startTimer now).timerRunning = true := by
  unfold Initiator.startTimer; split <;> simp_all
@[simp] theorem Initiator.startTimer_timerStart (i : Initiator) (now : Time) :
    (i.startTimer now).timerStart = if i.timerRunning then i.timerStart else now := by
  unfold Initiator.startTimer; split <;> rfl

/-! ### Latching the inputs of a receiving operation -/

@[simp] theorem latch_par (o : Operation) (s : State) : (latch o s).par = s.par := by cases o <;> rfl
@[simp] theorem latch_ini (o : Operation) (s : State) : (latch o s).ini = s.ini := by cases o <;> rfl
@[simp] theorem latch_rsp (o : Operation) (s : State) : (latch o s).rsp = s.rsp := by cases o <;> rfl
@[simp] theorem latch_out (o : Operation) (s : State) : (latch o s).out = s.out := by cases o <;> rfl
@[simp] theorem latch_srcLen (o : Operation) (s : State) : (latch o s).srcLen = s.srcLen := by cases o <;> rfl
@[simp] theorem latch_src (o : Operation) (s : State) : (latch o s).src = s.src := by cases o <;> rfl
@[simp] theorem latch_iniQueue (o : Operation) (s : State) : (latch o s).iniQueue = s.iniQueue := by cases o <;> rfl
@[simp] theorem latch_rspQueue (o : Operation) (s : State) : (latch o s).rspQueue = s.rspQueue := by cases o <;> rfl
@[simp] theorem latch_toRsp (o : Operation) (s : State) : (latch o s).toRsp = s.toRsp := by cases o <;> rfl
@[simp] theorem latch_toIni (o : Operation) (s : State) : (latch o s).toIni = s.toIni := by cases o <;> rfl
@[simp] theorem latch_lastNow (o : Operation) (s : State) : (latch o s).lastNow = s.lastNow := by cases o <;> rfl
@[simp] theorem latch_script (o : Operation) (s : State) : (latch o s).script = s.script := by cases o <;> rfl
@[simp] theorem latch_freeCount (o : Operation) (s : State) : (latch o s).freeCount = s.freeCount := by cases o <;> rfl

/-! ### What each receiving operation latches; every other operation latches nothing -/

theorem latch_iniHsStep (now : Time) (offer : Bool) (isn2 : Seq) (s : State) :
    latch (.iniHsStep now offer isn2) s = { s with rxOp := .hsStep now isn2 } := rfl
theorem latch_sndRecv (now : Time) (offer : Bool) (s : State) :
    latch (.sndRecv now offer) s = { s with rxOp := .sndRecv now } := rfl
theorem latch_rspRx (lseq : Seq) (loss : Fin 100) (ts : List Byte) (s : State) :
    latch (.rspRx lseq loss ts) s = { s with rxOp := .rspRx (headAddr s) lseq loss ts } := rfl

/-! ### No output -/

@[simp] theorem Output.empty_status : Output.empty.status = none := rfl
@[simp] theorem Output.empty_tx : Output.empty.tx = [] := rfl
@[simp] theorem Output.empty_reply : Output.empty.reply = [] := rfl
@[simp] theorem Output.empty_stats : Output.empty.stats = [] := rfl
@[simp] theorem Output.empty_delivered : Output.empty.delivered = [] := rfl
@[simp] theorem Output.empty_codec : Output.empty.codec = none := rfl

end Sys2Proof.Machine
end

