-- ==== Sys2Proof/Laws/Ops.lean ====
section
/-! SUPPORT. Once for each shared operation: what it answers, and everything it can do when it answers a next state. -/

namespace Sys2Proof.Machine

/-! ## Guards (R16, R13) -/

/-- An enabled operation whose `now` does not run backwards runs. -/
theorem timed_run {op : String} {enabled : Bool} {now : Time} {s : State} {k : State → Result}
    (he : enabled = true) (hn : s.lastNow ≤ now) : timed op enabled now s k = k (s.begin.touch now) := by
  simp only [timed, he, hn, if_true]

theorem timed_disabled {op : String} {enabled : Bool} {now : Time} {s : State} {k : State → Result}
    (he : enabled = false) : timed op enabled now s k = .refused (.notEnabled op) := by
  simp [timed, he]

theorem timed_backwards {op : String} {now : Time} {s : State} {k : State → Result}
    (hn : now < s.lastNow) : timed op true now s k = .refused .timeBackwards := by
  have : ¬s.lastNow ≤ now := by bv_omega
  simp [timed, this]

/-- A timed operation that answers a next state was enabled, its `now` did not run backwards, and its body answered it. -/
theorem timed_next {op : String} {enabled : Bool} {now : Time} {s t : State} {k : State → Result}
    (h : timed op enabled now s k = .next t) : enabled = true ∧ s.lastNow ≤ now ∧ k (s.begin.touch now) = .next t := by
  unfold timed at h
  split at h
  · split at h
    · exact ⟨‹_›, ‹_›, h⟩
    · cases h
  · cases h

theorem timed_fault {op : String} {enabled : Bool} {now : Time} {s : State} {k : State → Result} {f : Fault}
    (h : timed op enabled now s k = .fault f) : k (s.begin.touch now) = .fault f := by
  unfold timed at h
  split at h
  · split at h
    · exact h
    · cases h
  · cases h

/-! ## TC.EXPIRED (R165): the strict comparison -/

theorem tcExpired_iff {i : Initiator} {start now : Time} : tcExpired i start now = true ↔ i.rto < now.toNat - start.toNat :=
  decide_eq_true_iff

theorem tcExpired_of_lt {i : Initiator} {start now : Time} (h : i.rto < now.toNat - start.toNat) :
    tcExpired i start now = true := tcExpired_iff.mpr h

theorem tcExpired_of_le {i : Initiator} {start now : Time} (h : now.toNat - start.toNat ≤ i.rto) :
    tcExpired i start now = false := by
  rw [← Bool.not_eq_true, tcExpired_iff]
  exact Nat.not_lt.mpr h

/-! ## Lists of emissions -/

/-- `STAT_RTT` events are appended in order, and nothing else changes (R227). -/
theorem emitSamples_eq (l : List Time) (s : State) :
    emitSamples l s = { s with out := { s.out with stats := s.out.stats ++ l.map StatEvent.rtt } } := by
  induction l generalizing s with
  | nil => simp [emitSamples]
  | cons x xs ih => rw [emitSamples, ih]; simp [State.emitStat]

/-- Stored datagrams are emitted in order, and nothing else changes (R232, R233). -/
theorem emitRaw_eq (l : List Pending) (s : State) :
    emitRaw l s = { s with
      out := { s.out with tx := s.out.tx ++ l.map Pending.raw }, toRsp := s.toRsp ++ l.map Pending.raw } := by
  induction l generalizing s with
  | nil => simp [emitRaw]
  | cons x xs ih => rw [emitRaw, ih]; simp [State.emitTx]

/-- Retransmissions are counted one for each entry (R234). -/
theorem countRetransmits_eq (l : List Pending) (i : Initiator) :
    countRetransmits l i = { i with
      retransmits := i.retransmits + BitVec.ofNat 32 l.length, totalSent := i.totalSent + BitVec.ofNat 32 l.length } := by
  induction l generalizing i with
  | nil => simp [countRetransmits]
  | cons x xs ih =>
    rw [countRetransmits, ih]
    simp only [Initiator.countRetransmit, List.length_cons, BitVec.ofNat_add]
    congr 1 <;> (rw [BitVec.add_assoc]; congr 1; exact BitVec.add_comm _ _)

/-! ## The receive port (R192, R226, R260) -/

theorem receive_hsStep {s : State} {now : Time} {isn2 : Seq} (rx : Option Handlers) (h : s.rxOp = .hsStep now isn2) :
    receive rx s = hsStep now isn2 (rx.map Handlers.hs) s := by simp [receive, h]

theorem receive_sndRecv {s : State} {now : Time} (rx : Option Handlers) (h : s.rxOp = .sndRecv now) :
    receive rx s = sndRecv now (rx.map Handlers.snd) s := by simp [receive, h]

theorem receive_rspRx {s : State} {addr : Addr} {lseq : Seq} {loss : Fin 100} {ts : List Byte} (rx : Handlers)
    (h : s.rxOp = .rspRx addr lseq loss ts) : receive (some rx) s = rx.rsp addr lseq loss ts s.begin.popRsp := by
  simp [receive, h, rspRx]

/-- INI.HS_STEP consumes the offered datagram when the attempt is open (R192). -/
theorem hsStep_open {s : State} {now : Time} {isn2 : Seq} (h : HsOpen s now isn2) (f : State → State) :
    hsStep now isn2 (some f) s = .next (f (s.begin.touch now).popIni) := by
  have h1 : ¬now < s.ini.synTime := by have := h.started; bv_omega
  have h2 : tcExpired s.ini s.ini.synTime now = false := tcExpired_of_le h.live
  rw [hsStep, timed_run (by simp [h.enabled]) h.clock]
  simp only [State.touch_ini, State.begin_ini, h1, h2, if_false, Bool.false_eq_true]

/-- SND.RECV consumes the offered datagram and advances the phase (R226). -/
theorem sndRecv_open {s : State} {now : Time} (h : SndOpen s now) (f : Time → State → Result) :
    sndRecv now (some f) s = f now ((s.begin.touch now).setIni { s.ini with phase := .tchk }).popIni := by
  rw [sndRecv, timed_run (by simp [Initiator.inPhase, h.enabled, h.inRecv]) h.clock]
  rfl

/-- Everything INI.HS_STEP can do when it answers a next state (R192 to R196). -/
theorem hsStep_next {s t : State} {now : Time} {isn2 : Seq} {rx : Option (State → State)} (h : hsStep now isn2 rx s = .next t) :
    s.ini.conn = .synSent ∧ s.lastNow ≤ now ∧ s.ini.synTime ≤ now ∧
      (s.ini.rto < now.toNat - s.ini.synTime.toNat ∧ s.ini.attempts.toNat < 5 ∧ t = hsRetry now isn2 (s.begin.touch now) ∨
       s.ini.rto < now.toNat - s.ini.synTime.toNat ∧ 5 ≤ s.ini.attempts.toNat ∧ t = hsFail (s.begin.touch now) ∨
       now.toNat - s.ini.synTime.toNat ≤ s.ini.rto ∧ rx = none ∧ t = (s.begin.touch now).setStatus .hsWait ∨
       now.toNat - s.ini.synTime.toNat ≤ s.ini.rto ∧ ∃ f, rx = some f ∧ t = f (s.begin.touch now).popIni) := by
  obtain ⟨he, hn, hk⟩ := timed_next h
  simp only [State.touch_ini, State.begin_ini] at hk
  refine ⟨by simpa using he, hn, ?_⟩
  by_cases hs : now < s.ini.synTime
  · simp [hs] at hk
  · refine ⟨by bv_omega, ?_⟩
    simp only [hs, if_false] at hk
    by_cases hx : s.ini.rto < now.toNat - s.ini.synTime.toNat
    · have hx' : tcExpired s.ini s.ini.synTime now = true := tcExpired_of_lt hx
      simp only [hx', if_true] at hk
      by_cases ha : s.ini.attempts.toNat < 5
      · simp only [ha, if_true, Host.Outcome.next.injEq] at hk
        exact .inl ⟨hx, ha, hk.symm⟩
      · simp only [ha, if_false, Host.Outcome.next.injEq] at hk
        exact .inr (.inl ⟨hx, by omega, hk.symm⟩)
    · have hx' : tcExpired s.ini s.ini.synTime now = false := tcExpired_of_le (Nat.not_lt.mp hx)
      simp only [hx', Bool.false_eq_true, if_false] at hk
      cases rx with
      | none => cases hk; exact .inr (.inr (.inl ⟨by omega, rfl, rfl⟩))
      | some f => cases hk; exact .inr (.inr (.inr ⟨by omega, f, rfl, rfl⟩))

/-- Everything SND.RECV can do when it answers a next state (R226). -/
theorem sndRecv_next {s t : State} {now : Time} {rx : Option (Time → State → Result)} (h : sndRecv now rx s = .next t) :
    s.ini.conn = .established ∧ s.ini.phase = .recv ∧ s.lastNow ≤ now ∧
      (rx = none ∧ t = ((s.begin.touch now).setIni { s.ini with phase := .tchk }).setStatus .rxNone ∨
       ∃ f, rx = some f ∧ f now ((s.begin.touch now).setIni { s.ini with phase := .tchk }).popIni = .next t) := by
  obtain ⟨he, hn, hk⟩ := timed_next h
  simp only [Initiator.inPhase, Bool.and_eq_true, beq_iff_eq] at he
  refine ⟨he.1, he.2, hn, ?_⟩
  cases rx with
  | none => cases hk; exact .inl ⟨rfl, rfl⟩
  | some f => exact .inr ⟨f, rfl, hk⟩

/-- Everything SND.FILL can do when it answers a next state (R221 to R223). -/
theorem opFill_next {s t : State} {now : Time} {chunk : Nat} (h : opFill now chunk s = .next t) :
    s.ini.conn = .established ∧ s.ini.phase = .fill ∧ s.lastNow ≤ now ∧
      (s.ini.base = s.ini.target ∧ t = fillFin (s.begin.touch now) ∨
       s.ini.base ≠ s.ini.target ∧ s.ini.nextSeq < s.ini.target ∧ s.ini.bytesInFlight.toNat < 400 ∧
         fillSend now chunk (s.begin.touch now) = .next t ∨
       s.ini.base ≠ s.ini.target ∧ ¬(s.ini.nextSeq < s.ini.target ∧ s.ini.bytesInFlight.toNat < 400) ∧
         t = fillClosed (s.begin.touch now)) := by
  obtain ⟨he, hn, hk⟩ := timed_next h
  simp only [Initiator.inPhase, Bool.and_eq_true, beq_iff_eq] at he
  simp only [State.touch_ini, State.begin_ini] at hk
  refine ⟨he.1, he.2, hn, ?_⟩
  by_cases hb : s.ini.base = s.ini.target
  · simp only [hb, if_true, Host.Outcome.next.injEq] at hk
    exact .inl ⟨hb, hk.symm⟩
  · simp only [hb, if_false] at hk
    by_cases hc : s.ini.nextSeq < s.ini.target ∧ s.ini.bytesInFlight.toNat < 400
    · simp only [hc, and_self, if_true] at hk
      exact .inr (.inl ⟨hb, hc.1, hc.2, hk⟩)
    · simp only [hc, if_false, Host.Outcome.next.injEq] at hk
      exact .inr (.inr ⟨hb, hc, hk.symm⟩)

/-- Everything the "send one packet" arm can do when it answers a next state (R222, R224, R225). -/
theorem fillSend_next {s t : State} {now : Time} {chunk : Nat} (h : fillSend now chunk s = .next t) :
    40 ≤ chunk ∧ chunk ≤ 80 ∧ s.ini.sliceStart + s.ini.chunkSize chunk ≤ s.srcLen ∧
      t = ((s.setIni (s.ini.sendNew now (s.src.slice s.ini.sliceStart (s.ini.chunkSize chunk)))).emitTx
        (encode (mkData s.ini.nextSeq (s.src.slice s.ini.sliceStart (s.ini.chunkSize chunk))))).setStatus .sent := by
  unfold fillSend at h
  split at h
  · rename_i hc
    simp only [chunkInRange, Bool.and_eq_true, decide_eq_true_eq] at hc
    dsimp only at h
    split at h
    · cases h; exact ⟨hc.1, hc.2, ‹_›, rfl⟩
    · cases h
  · cases h

/-- The size of a chunk that is sent (R224). -/
theorem chunkSize_bounds {i : Initiator} {chunk : Nat} (h1 : 40 ≤ chunk) (h2 : chunk ≤ 80) (hb : i.bytesInFlight.toNat < 400) :
    1 ≤ i.chunkSize chunk ∧ i.chunkSize chunk ≤ 80 ∧ i.bytesInFlight.toNat + i.chunkSize chunk ≤ 400 := by
  simp only [Initiator.chunkSize, Initiator.room, Config.windowBytes]
  omega

/-- Everything SND.TCHK can do when it answers a next state (R232). -/
theorem opTchk_next {s t : State} {now : Time} (h : opTchk now s = .next t) :
    s.ini.conn = .established ∧ s.ini.phase = .tchk ∧ s.lastNow ≤ now ∧
      (s.ini.timerRunning = true ∧ s.ini.timerStart ≤ now ∧ s.ini.rto < now.toNat - s.ini.timerStart.toNat ∧
         t = (emitRaw s.ini.unacked ((s.begin.touch now).setIni { s.ini.retransmitAll now with phase := .fill })).setStatus
           .retransmitted ∨
       t = ((s.begin.touch now).setIni { s.ini with phase := .fill }).setStatus .noTimeout) := by
  obtain ⟨he, hn, hk⟩ := timed_next h
  simp only [Initiator.inPhase, Bool.and_eq_true, beq_iff_eq] at he
  simp only [State.touch_ini, State.begin_ini] at hk
  refine ⟨he.1, he.2, hn, ?_⟩
  by_cases hb : s.ini.timerRunning = true ∧ now < s.ini.timerStart
  · simp only [hb, and_self, if_true] at hk
    cases hk
  · simp only [hb, if_false] at hk
    by_cases hx : s.ini.timerRunning = true ∧ tcExpired s.ini s.ini.timerStart now = true
    · simp only [hx, and_self, if_true, Host.Outcome.next.injEq] at hk
      rw [tcExpired_iff] at hx
      have := fun h => hb ⟨hx.1, h⟩
      exact .inl ⟨hx.1, by bv_omega, hx.2, hk.symm⟩
    · simp only [hx, if_false, Host.Outcome.next.injEq] at hk
      exact .inr hk.symm

/-- Everything INI.CONNECT can do when it answers a next state (R191). -/
theorem opConnect_next {s t : State} {now : Time} {isn : Seq} (h : opConnect now isn s = .next t) :
    s.ini.conn = .closed ∧ s.lastNow ≤ now ∧ launchPremise s.srcLen s.ini.target = true ∧
      t = (((s.begin.touch now).setIni (s.ini.connect s.par now isn)).emitTx (encode (mkSyn isn))).setStatus .synSentOk := by
  obtain ⟨he, hn, hk⟩ := timed_next h
  refine ⟨by simpa using he, hn, ?_⟩
  split at hk
  · cases hk; exact ⟨‹_›, rfl⟩
  · cases hk

/-- The step of an invoked operation. -/
theorem step_op {s : State} {o : Operation} {rest : List Action} (h : s.script = .op o :: rest) :
    step s = runOp o { s with script := rest } := by simp [step, h, runAction]

/-- The step of an action of the environment. -/
theorem step_env {s : State} {e : EnvAction} {rest : List Action} (h : s.script = .env e :: rest) :
    step s = .next (runEnv e { s with script := rest }) := by simp [step, h, runAction]

/-! ## The step of each operation that receives nothing (R16) -/

theorem step_iniReset {s : State} {rest : List Action} (hs : s.script = .op (.iniReset) :: rest) :
    step s = opIniReset { s with script := rest } := by rw [step_op hs]; rfl
theorem step_iniCfgWrite {s : State} {rest : List Action} {target : Seq} (hs : s.script = .op (.iniCfgWrite target) :: rest) :
    step s = opIniCfgWrite target { s with script := rest } := by rw [step_op hs]; rfl
theorem step_iniConnect {s : State} {rest : List Action} {now : Time} {isn : Seq} (hs : s.script = .op (.iniConnect now isn) :: rest) :
    step s = opConnect now isn { s with script := rest } := by rw [step_op hs]; rfl
theorem step_sndFill {s : State} {rest : List Action} {now : Time} {chunk : Nat} (hs : s.script = .op (.sndFill now chunk) :: rest) :
    step s = opFill now chunk { s with script := rest } := by rw [step_op hs]; rfl
theorem step_sndTchk {s : State} {rest : List Action} {now : Time} (hs : s.script = .op (.sndTchk now) :: rest) :
    step s = opTchk now { s with script := rest } := by rw [step_op hs]; rfl
theorem step_rspReset {s : State} {rest : List Action} (hs : s.script = .op (.rspReset) :: rest) :
    step s = opRspReset { s with script := rest } := by rw [step_op hs]; rfl
theorem step_rspCfgWrite {s : State} {rest : List Action} {pct : Byte} (hs : s.script = .op (.rspCfgWrite pct) :: rest) :
    step s = opRspCfgWrite pct { s with script := rest } := by rw [step_op hs]; rfl
theorem step_hcEncode {s : State} {rest : List Action} {h : Header} (hs : s.script = .op (.hcEncode h) :: rest) :
    step s = opHcEncode h { s with script := rest } := by rw [step_op hs]; rfl
theorem step_hcDecode {s : State} {rest : List Action} {d : Datagram} (hs : s.script = .op (.hcDecode d) :: rest) :
    step s = opHcDecode d { s with script := rest } := by rw [step_op hs]; rfl
theorem step_hcParse {s : State} {rest : List Action} {d : Datagram} (hs : s.script = .op (.hcParse d) :: rest) :
    step s = opHcParse d { s with script := rest } := by rw [step_op hs]; rfl

/-- A receiving operation that is offered nothing (R83). -/
theorem step_none {s : State} {o : Operation} {rest : List Action} (hs : s.script = .op o :: rest)
    (ho : offered o { s with script := rest } = none) : step s = runPlain o (latch o { s with script := rest }) := by
  rw [step_op hs, runOp, ho]

/-- A receiving operation that is offered a malformed datagram (R311). -/
theorem step_malformed {s : State} {o : Operation} {rest : List Action} {d : Datagram} {why : Malformed} (hs : s.script = .op o :: rest)
    (ho : offered o { s with script := rest } = some d) (hd : decode d = .error why) :
    step s = receive (some malformed) (latch o { s with script := rest }) := by
  rw [step_op hs, runOp, ho]; simp only [hd]

/-! ## The step of each receiving operation, whatever it is offered -/

/-- A packet is handled in one way by each receiving operation, whatever the state (R192, R226, R260). -/
theorem exec_receive (i : Instr) : ∃ h : Handlers, ∀ s, exec i s = receive (some h) s := by
  cases i <;> exact ⟨_, fun _ => rfl⟩

/-- The step of an operation that is offered something, or nothing, is one shared receive. -/
theorem runOp_receive {o : Operation} {s : State} (hp : ∀ t, runPlain o t = receive none t) :
    ∃ rx, runOp o s = receive rx (latch o s) := by
  unfold runOp
  split
  · exact ⟨none, hp _⟩
  · split
    · obtain ⟨h, hh⟩ := exec_receive _
      exact ⟨some h, hh _⟩
    · exact ⟨some malformed, rfl⟩

/-- INI.HS_STEP (R192). -/
theorem step_iniHsStep {s : State} {rest : List Action} {now : Time} {offer : Bool} {isn2 : Seq}
    (hs : s.script = .op (.iniHsStep now offer isn2) :: rest) :
    ∃ rx, step s = hsStep now isn2 rx { s with script := rest, rxOp := .hsStep now isn2 } := by
  obtain ⟨rx, h⟩ := runOp_receive (o := .iniHsStep now offer isn2) (s := { s with script := rest }) (fun _ => rfl)
  exact ⟨rx.map Handlers.hs, (step_op hs).trans h⟩

/-- SND.RECV (R226). -/
theorem step_sndRecv {s : State} {rest : List Action} {now : Time} {offer : Bool}
    (hs : s.script = .op (.sndRecv now offer) :: rest) :
    ∃ rx, step s = sndRecv now rx { s with script := rest, rxOp := .sndRecv now } := by
  obtain ⟨rx, h⟩ := runOp_receive (o := .sndRecv now offer) (s := { s with script := rest }) (fun _ => rfl)
  exact ⟨rx.map Handlers.snd, (step_op hs).trans h⟩

/-- An action of the environment leaves both units, the outputs, the parameters, the clock and the script as they are (R33, R75). -/
theorem runEnv_frame (e : EnvAction) (s : State) :
    (runEnv e s).ini = s.ini ∧ (runEnv e s).rsp = s.rsp ∧ (runEnv e s).out = s.out ∧ (runEnv e s).par = s.par ∧
      (runEnv e s).lastNow = s.lastNow ∧ (runEnv e s).script = s.script ∧ (runEnv e s).rxOp = s.rxOp ∧
      (runEnv e s).freeCount = s.freeCount := by
  cases e <;> simp only [runEnv, deliverRsp, deliverIni, srcResize, srcWrite] <;> (repeat' split) <;> simp

end Sys2Proof.Machine
end

