-- ==== Sys2Proof/Laws/PerInstr.lean ====
section
/-! SUPPORT. Facts proved once for each constructor of `Instr`: the family `OnWire`, what every packet looks like on the wire
(spec/30_encoding.md R100, R103, R105, R107). -/

namespace Sys2Proof.Laws

/-- The datagram of a packet is a header of eight bytes and its payload, the first byte holding the type code above four ones. -/
def OnWire.Statement (i : Instr) : Prop :=
  (encode i).length = 8 + i.pkt.payload.length ∧ (encode i).headD 0 = i.code ++ 0xF#4 ∧ (encode i).drop 8 = i.pkt.payload

theorem OnWire.type0 (p : Pkt) : OnWire.Statement (.type0 p) := ⟨encode_length _, by rfl, by rfl⟩
theorem OnWire.syn (p : Pkt) : OnWire.Statement (.syn p) := ⟨encode_length _, by rfl, by rfl⟩
theorem OnWire.synAck (p : Pkt) : OnWire.Statement (.synAck p) := ⟨encode_length _, by rfl, by rfl⟩
theorem OnWire.data (p : Pkt) : OnWire.Statement (.data p) := ⟨encode_length _, by rfl, by rfl⟩
theorem OnWire.ack (p : Pkt) : OnWire.Statement (.ack p) := ⟨encode_length _, by rfl, by rfl⟩
theorem OnWire.fin (p : Pkt) : OnWire.Statement (.fin p) := ⟨encode_length _, by rfl, by rfl⟩
theorem OnWire.config (p : Pkt) : OnWire.Statement (.config p) := ⟨encode_length _, by rfl, by rfl⟩
theorem OnWire.type7 (p : Pkt) : OnWire.Statement (.type7 p) := ⟨encode_length _, by rfl, by rfl⟩
theorem OnWire.type8 (p : Pkt) : OnWire.Statement (.type8 p) := ⟨encode_length _, by rfl, by rfl⟩
theorem OnWire.type9 (p : Pkt) : OnWire.Statement (.type9 p) := ⟨encode_length _, by rfl, by rfl⟩
theorem OnWire.type10 (p : Pkt) : OnWire.Statement (.type10 p) := ⟨encode_length _, by rfl, by rfl⟩
theorem OnWire.type11 (p : Pkt) : OnWire.Statement (.type11 p) := ⟨encode_length _, by rfl, by rfl⟩
theorem OnWire.type12 (p : Pkt) : OnWire.Statement (.type12 p) := ⟨encode_length _, by rfl, by rfl⟩
theorem OnWire.type13 (p : Pkt) : OnWire.Statement (.type13 p) := ⟨encode_length _, by rfl, by rfl⟩
theorem OnWire.type14 (p : Pkt) : OnWire.Statement (.type14 p) := ⟨encode_length _, by rfl, by rfl⟩
theorem OnWire.type15 (p : Pkt) : OnWire.Statement (.type15 p) := ⟨encode_length _, by rfl, by rfl⟩

end Sys2Proof.Laws
end

