-- ==== Sys2Proof/Tests/Slice0.lean ====
section
/-! SUPPORT. The model's own tests. Expected values are taken from spec/95_test_vectors.md (named in each docstring) or worked out by hand from
the rule named. The second half shows, for every statement that has hypotheses, a concrete state and operands that meet them. -/

open Sys2Proof Sys2Proof.Machine

namespace Sys2Proof.Tests

/-! ## Helpers -/

/-- One tick a millisecond, no timestamp, an unbounded table, the initiator seen at address 7. -/
def par : Params := ⟨1, 0, none, 7⟩
/-- A machine after reset with those parameters. -/
def fresh : State := { State.reset with par := par, ini := Initiator.reset par }
/-- The outcome is a next state with a property. -/
def nextIs (r : Host.Outcome State Fault Refusal) (p : State → Bool) : Bool :=
  match r with
  | .next t => p t
  | .fault _ => false
  | .refused _ => false
/-- The outcome is a refusal with a given reason. -/
def refuses (r : Host.Outcome State Fault Refusal) (why : Refusal) : Bool :=
  match r with
  | .next _ => false
  | .fault _ => false
  | .refused w => w == why
/-- One operation is invoked. -/
def invoke (s : State) (o : Operation) : State := { s with script := [.op o] }

/-- The responder with one peer, address 1, at a given state and expected sequence number, loss rate 30. -/
def peerAt (st : PeerState) (expected : Seq) : State :=
  { fresh with rsp := { Responder.reset with dropPct := 30, peers := [⟨1, st, expected, 5⟩] } }
/-- RSP.RX is under way for an address with a loss draw. -/
def rxFrom (s : State) (addr : Addr) (loss : Fin 100) : State := { s with rxOp := .rspRx addr 0xABCD loss [] }

/-- A handshake of one SYN sent at 1000, TARGET = 20. -/
def synSent : State :=
  { fresh with
    srcLen := 900, lastNow := 1000
    ini := { fresh.ini with target := 20, conn := .synSent, isn := 0x1234, attempts := 1, synTime := 1000 } }
/-- INI.HS_STEP is under way. -/
def hsAt (now : Time) : State := { synSent with rxOp := .hsStep now 0x7777 }

/-- A pending entry of zero bytes, first sent at a time. -/
def entry (seq size : Nat) (sent : Time) : Pending :=
  { seq := BitVec.ofNat 16 seq
    raw := wire 0x3F (BitVec.ofNat 16 seq) 0 (BitVec.ofNat 8 size) (List.replicate size 0)
    size := BitVec.ofNat 7 size, start := BitVec.ofNat 32 (40 * seq), stop := BitVec.ofNat 32 (40 * seq + size)
    sendTime := sent, acked := false, retries := 0 }
/-- The transfer of the worked example of R227: entries 0 (40 bytes, sent 1011) and 1 (80 bytes, sent 1012) pending, in phase RECV. -/
def flight : State :=
  { fresh with
    srcLen := 900, lastNow := 1020
    ini := { fresh.ini with
      target := 20, conn := .established, phase := .recv, nextSeq := 2, bytesInFlight := 120,
      pend := [entry 0 40 1011, entry 1 80 1012], timerRunning := true, timerStart := 1011, initialSent := 2, totalSent := 2 } }
/-- SND.RECV is under way. -/
def recvAt (now : Time) : State := { flight with rxOp := .sndRecv now }
/-- The transfer in another phase. -/
def inPhase (p : Phase) : State := { flight with ini := { flight.ini with phase := p } }
/-- Ready to send packet 2, with a few bytes of source payload listed. -/
def filling : State := { inPhase .fill with src := [(80, 0xAA), (81, 0xBB)] }

/-! ## Well-formed packets (R107, R119) -/

theorem test_wf_data : (Instr.data ⟨0, 0, 400, 2, [0xAA, 0xBB]⟩).wellFormed = true := by decide
theorem test_wf_data_short_refused : (Instr.data ⟨0, 0, 400, 2, [0xAA]⟩).wellFormed = false := by decide
theorem test_wf_data_long_refused : (Instr.data ⟨0, 0, 400, 2, [1, 2, 3]⟩).wellFormed = false := by decide
theorem test_wf_config_short_refused : (Instr.config ⟨0, 0, 400, 1, []⟩).wellFormed = false := by decide
theorem test_wf_config_long_refused : (Instr.config ⟨0, 0, 400, 0, [1]⟩).wellFormed = false := by decide
/-- Of every other type the trailing bytes are not checked (V-HC-26, V-HC-27). -/
theorem test_wf_ack_unchecked : (Instr.ack ⟨0, 1, 400, 4, []⟩).wellFormed = true := by decide

/-! ## Decoding words written out from R100 -/

/-- V-HC-8. -/
theorem test_decode_type0 : decode [0x0F, 0, 0, 0, 0, 0, 0, 0] = .ok (.type0 ⟨0, 0, 0, 0, []⟩) := by decide
/-- V-HC-18. -/
theorem test_decode_syn : decode [0x1F, 0x12, 0x34, 0, 0, 1, 0x90, 0, 0xAA, 0xBB] = .ok (.syn ⟨0x1234, 0, 400, 0, [0xAA, 0xBB]⟩) := by decide
/-- V-HC-2. -/
theorem test_decode_synAck : decode [0x2F, 0xAB, 0xCD, 0x12, 0x35, 1, 0x90, 0] = .ok (.synAck ⟨0xABCD, 0x1235, 400, 0, []⟩) := by decide
/-- V-HC-19. -/
theorem test_decode_data : decode [0x3F, 0, 0, 0, 0, 1, 0x90, 2, 0xAA, 0xBB] = .ok (.data ⟨0, 0, 400, 2, [0xAA, 0xBB]⟩) := by decide
/-- V-HC-14: the reserved nibble is not read. -/
theorem test_decode_ack : decode [0x4A, 0, 0, 0, 1, 1, 0x90, 0] = .ok (.ack ⟨0, 1, 400, 0, []⟩) := by decide
/-- V-HC-6. -/
theorem test_decode_fin : decode [0x5F, 0, 5, 0, 0, 1, 0x90, 0] = .ok (.fin ⟨5, 0, 400, 0, []⟩) := by decide
/-- V-HC-23. -/
theorem test_decode_config : decode [0x6F, 0, 0, 0, 0, 1, 0x90, 1, 0x1E] = .ok (.config ⟨0, 0, 400, 1, [0x1E]⟩) := by decide
/-- V-HC-10: every field distinct. -/
theorem test_decode_type7 : decode [0x7F, 0, 1, 0, 2, 0, 3, 4] = .ok (.type7 ⟨1, 2, 3, 4, []⟩) := by decide
theorem test_decode_type8 : decode [0x80, 0, 1, 0, 2, 0, 3, 4] = .ok (.type8 ⟨1, 2, 3, 4, []⟩) := by decide
/-- The datagram of V-INI-6. -/
theorem test_decode_type9 : decode [0x9F, 0, 0, 0x12, 0x35, 1, 0x90, 0] = .ok (.type9 ⟨0, 0x1235, 400, 0, []⟩) := by decide
theorem test_decode_type10 : decode [0xAF, 0, 1, 0, 2, 0, 3, 4] = .ok (.type10 ⟨1, 2, 3, 4, []⟩) := by decide
theorem test_decode_type11 : decode [0xBF, 0, 1, 0, 2, 0, 3, 4] = .ok (.type11 ⟨1, 2, 3, 4, []⟩) := by decide
/-- The datagram of V-SND-6. -/
theorem test_decode_type12 : decode [0xCF, 0, 0, 0, 0, 0, 0, 0] = .ok (.type12 ⟨0, 0, 0, 0, []⟩) := by decide
theorem test_decode_type13 : decode [0xDF, 0, 1, 0, 2, 0, 3, 4] = .ok (.type13 ⟨1, 2, 3, 4, []⟩) := by decide
theorem test_decode_type14 : decode [0xEF, 0, 1, 0, 2, 0, 3, 4] = .ok (.type14 ⟨1, 2, 3, 4, []⟩) := by decide
/-- V-HC-9: every field at its maximum. -/
theorem test_decode_type15 :
    decode [0xFF, 0xFF, 0xFF, 0xFF, 0xFF, 0xFF, 0xFF, 0xFF] = .ok (.type15 ⟨0xFFFF, 0xFFFF, 0xFFFF, 0xFF, []⟩) := by decide
/-- V-HC-16 and V-HC-17: fewer than eight bytes. -/
theorem test_decode_short : decode [0x3F, 0, 1, 0, 0, 1, 0x90] = .error .shortHeader ∧ decode [] = .error .shortHeader := by decide
/-- V-HC-20, V-HC-21, V-HC-24: the wrong number of bytes after a DATA or CONFIG header. -/
theorem test_decode_mismatch :
    decode [0x3F, 0, 0, 0, 0, 1, 0x90, 2, 0xAA] = .error .lengthMismatch ∧
    decode [0x3F, 0, 0, 0, 0, 1, 0x90, 2, 0xAA, 0xBB, 0xCC] = .error .lengthMismatch ∧
    decode [0x6F, 0, 0, 0, 0, 1, 0x90, 1] = .error .lengthMismatch := by decide
/-- V-HC-11: the byte order of every field, on encoding. -/
theorem test_encode : hcEncode ⟨3, 0x0102, 0x0304, 0x0506, 7⟩ = [0x3F, 1, 2, 3, 4, 5, 6, 7] := by decide
/-- The table's word of V-HC-11, its most significant byte first (R100), with the payload bytes it needs. -/
theorem test_table_word :
    decodeTableWord 64 0x3F01020304050602 = some (.data ⟨0x0102, 0x0304, 0x0506, 2, [0, 0]⟩) := by decide

/-! ## One step of the responder -/

/-- V-RSP-4: the acknowledgment number wraps to 0. -/
theorem test_syn : nextIs (exec (.syn ⟨0xFFFF, 0, 400, 0, []⟩) { fresh with rxOp := .rspRx 1 1 0 [] }) (fun t =>
    t.out.reply == [(1, [0x2F, 0, 1, 0, 0, 1, 0x90, 0])] && t.rsp.peers == [⟨1, .synReceived, 0, 1⟩]) = true := by decide
/-- V-RSP-25: the table is full. -/
theorem test_syn_full : nextIs (exec (.syn ⟨2, 0, 400, 0, []⟩)
    { rxFrom (peerAt .synReceived 0) 2 0 with par := ⟨1, 0, some 1, 7⟩ }) (fun t =>
      t.out.status == some .rejected && t.rsp.rejectCount == 1 && t.rsp.peers.length == 1) = true := by decide
/-- V-RCV-6: the CONFIG byte is the rate in force. -/
theorem test_ack_responder : nextIs (exec (.ack ⟨0, 1, 400, 0, []⟩) (rxFrom (peerAt .synReceived 0) 1 0)) (fun t =>
    t.out.reply == [(1, [0x6F, 0, 0, 0, 0, 1, 0x90, 1, 0x1E])] && t.rsp.peers == [⟨1, .established, 0, 5⟩]) = true := by decide
/-- V-RSP-23: the FIN's sequence number wraps. -/
theorem test_fin : nextIs (exec (.fin ⟨0xFFFF, 0, 400, 0, []⟩) (rxFrom (peerAt .established 7) 1 0)) (fun t =>
    t.out.reply == [(1, [0x4F, 0, 0, 0, 0, 1, 0x90, 0])] && t.rsp.peers == []) = true := by decide
/-- V-RCV-7: the expected sequence number wraps. -/
theorem test_data_wraps : nextIs (exec (.data ⟨0xFFFF, 0, 400, 0, []⟩) (rxFrom (peerAt .established 0xFFFF) 1 50)) (fun t =>
    t.out.status == some .dataInOrder && t.out.reply == [(1, [0x4F, 0, 0, 0, 0, 1, 0x90, 0])] &&
    t.rsp.peers == [⟨1, .established, 0, 5⟩]) = true := by decide
/-- V-RCV-3: the loss policy comes before the sequence number. -/
theorem test_data_dropped : nextIs (exec (.data ⟨7, 0, 400, 0, []⟩) (rxFrom (peerAt .established 1) 1 0)) (fun t =>
    t.out.status == some .dataDropped && t.rsp.dropCount == 1 && t.rsp.oooCount == 0) = true := by decide
/-- V-RCV-8: the timestamp payload. -/
theorem test_timestamp : nextIs (exec (.data ⟨0, 0, 400, 0, []⟩)
    { peerAt .established 0 with par := ⟨1, 4, none, 7⟩, rxOp := .rspRx 1 0 30 [0xDE, 0xAD, 0xBE, 0xEF] }) (fun t =>
      t.out.reply == [(1, [0x4F, 0, 0, 0, 1, 1, 0x90, 4, 0xDE, 0xAD, 0xBE, 0xEF])]) = true := by decide

/-! ## One step of the initiator -/

/-- V-INI-9: nibble, window, length and the trailing byte are not read. -/
theorem test_synAck : nextIs (step { invoke synSent (.iniHsStep 1010 true 0) with
      iniQueue := [[0x20, 0xAB, 0xCD, 0x12, 0x35, 0, 0, 7, 0xAA]] }) (fun t =>
    t.out.tx == [[0x4F, 0, 0, 0xAB, 0xCE, 1, 0x90, 0]] && t.ini.conn == .established && t.ini.serverSeq == 0xABCD) = true := by decide
/-- V-INI-7: at an expired step the datagram stays queued and a SYN goes out. -/
theorem test_hs_retry : nextIs (step { invoke synSent (.iniHsStep 1301 true 0x7777) with
      iniQueue := [[0x2F, 0xAB, 0xCD, 0x12, 0x35, 1, 0x90, 0]] }) (fun t =>
    t.out.tx == [[0x1F, 0x77, 0x77, 0, 0, 1, 0x90, 0]] && t.ini.rto == 600 && t.iniQueue.length == 1) = true := by decide
/-- V-INI-12: exactly the timeout has passed. -/
theorem test_hs_wait : nextIs (step (invoke synSent (.iniHsStep 1300 false 0))) (fun t => t.out.status == some .hsWait) = true := by decide
/-- The worked example of R227. -/
theorem test_ack_sender : nextIs (exec (.ack ⟨0, 2, 400, 0, []⟩) (recvAt 1031)) (fun t =>
    t.out.stats == [.rtt 20, .rtt 19] && t.ini.base == 2 && t.ini.bytesInFlight == 0 && t.ini.pend == [] &&
    !t.ini.timerRunning && t.ini.samp == [20, 19]) = true := by decide
/-- The worked example of R228, and a byte above 100 (V-SND-7). -/
theorem test_config : nextIs (exec (.config ⟨0, 0, 400, 1, [0xC8]⟩) (recvAt 1031)) (fun t =>
    t.out.status == some .configLatched && t.ini.peerDropPct == 200 && t.ini.peerDropValid && t.ini.phase == .tchk) = true := by decide
/-- V-SND-6: an unassigned type changes nothing but the phase. -/
theorem test_type12 : nextIs (exec (.type12 ⟨0, 0, 0, 0, []⟩) (recvAt 1031)) (fun t =>
    t.out.status == some .ignored && t.ini == { flight.ini with phase := .tchk }) = true := by decide
/-- R224, R225: packet 2, whose chunk starts at byte 80, cut from nothing; `length` is 40. -/
theorem test_fill : nextIs (step (invoke filling (.sndFill 1030 40))) (fun t =>
    t.out.tx == [[0x3F, 0, 2, 0, 0, 1, 0x90, 40, 0xAA, 0xBB] ++ List.replicate 38 0] && t.ini.nextSeq == 3 &&
    t.ini.bytesInFlight == 160 && t.ini.timerStart == 1011) = true := by decide
/-- The worked example of R232. -/
theorem test_retransmit : nextIs (step (invoke (inPhase .tchk) (.sndTchk 1312))) (fun t =>
    t.out.tx == [(entry 0 40 0).raw, (entry 1 80 0).raw] && t.ini.retransmits == 2 && t.ini.totalSent == 4 &&
    t.ini.pend.map Pending.sendTime == [1312, 1312] && t.ini.timerStart == 1312 && t.ini.rto == 300) = true := by decide
/-- V-INI-13: a target of 0 sends the FIN at once, and the drop rate holds no value. -/
theorem test_fin_sent : nextIs (step (invoke { fresh with ini := { fresh.ini with conn := .established } } (.sndFill 1011 55))) (fun t =>
    t.out.tx == [[0x5F, 0, 0, 0, 0, 1, 0x90, 0]] && t.out.stats == [.final 0 0 0 false none] && t.ini.xferDone) = true := by decide
/-- V-TC-2 and V-TC-1: ten samples give 5 times the sixth smallest, nine leave the timeout. -/
theorem test_recompute :
    (tcRecompute { fresh.ini with samp := [10, 12, 11, 13, 9, 15, 14, 8, 16, 17] }).rto = 65 ∧
    (tcRecompute { fresh.ini with samp := [10, 12, 11, 13, 9, 15, 14, 8, 16] }).rto = 300 := by decide
/-- V-TC-3: the oldest sample goes. -/
theorem test_record : (tcRecordSample 20 { fresh.ini with samp := [10, 12, 11, 13, 9, 15, 14, 8, 16, 17] }).samp =
    [12, 11, 13, 9, 15, 14, 8, 16, 17, 20] := by decide
/-- V-TC-10: the strict comparison. -/
theorem test_expired : tcExpired fresh.ini 1000 1300 = false ∧ tcExpired fresh.ini 1000 1301 = true := by decide
/-- The canonical form: writing what an unlisted address reads as removes the entry. -/
theorem test_memory : Memory.write [(3, 1), (9, 2)] 3 0 = [(9, 2)] ∧ Memory.write [(9, 2)] 3 1 = [(3, 1), (9, 2)] ∧
    Memory.read [(9, 2)] 3 = 0 := by decide

/-! ## Witnesses: for each statement with hypotheses, values that meet them, at the ends of its clauses -/

/-- Ready to invoke RSP.RX on a queued datagram from address 1. -/
def queued (d : Datagram) (loss : Fin 100) (s : State) : State :=
  { s with rspQueue := [(1, d)], script := [.op (.rspRx 0xABCD loss [])] }
/-- The invariant of R42 in the worked transfer. -/
theorem flight_transfer (p : Phase) : TransferInv 1020 { flight.ini with phase := p } := by
  have entries : ∀ e ∈ [entry 0 40 1011, entry 1 80 1012], PendingInv 1020 e := by
    intro e he
    simp only [List.mem_cons, List.not_mem_nil, or_false] at he
    rcases he with rfl | rfl <;> exact ⟨by decide, by decide, by decide, by decide, by decide, by decide, by decide⟩
  cases p <;>
    exact ⟨by decide, by decide, by decide, entries, by decide, by decide, by decide, by decide, by decide, by decide⟩
/-- The invariant of the Initiator unit in the worked transfer, in any phase and whatever the environment does. -/
theorem flight_inv (s : State) (p : Phase) (hp : s.par = par) (hn : s.lastNow = 1020)
    (hi : s.ini = { flight.ini with phase := p }) : IniInv s where
  samples := by rw [hi]; exact Nat.zero_le 10
  handshake h := by rw [hi] at h; cases h
  transfer _ := by rw [hi, hn]; exact flight_transfer p
  timeout _ := by
    rw [hi, hp]
    exact ⟨0, rfl⟩

theorem witness_headerRoundTrip :
    hcDecode [0x4F, 0, 0, 0, 1, 1, 0x90, 0] = .ok ⟨4, 0, 1, 400, 0⟩ ∧ hcDecode [0x40, 0, 0, 0, 1, 1, 0x90, 0, 9] = .ok ⟨4, 0, 1, 400, 0⟩ ∧
    (0x40#8).extractLsb' 0 4 ≠ 0xF#4 := by decide
theorem witness_encodedPacket :
    (∀ n : BitVec 8, (Instr.data ⟨1, 0, 400, n, List.replicate n.toNat 7⟩).wellFormed = true) ∧
    (Instr.config ⟨1, 0, 400, 0, []⟩).wellFormed = true :=
  ⟨fun n => by simp only [Instr.wellFormed, Pkt.lengthMatches, List.length_replicate, BEq.rfl], by decide⟩
theorem witness_decodedPacket : decode [0x40, 0, 0, 0, 1, 1, 0x90, 0] = .ok (.ack ⟨0, 1, 400, 0, []⟩) := by decide
/-- Seven bytes; a DATA one byte short and a CONFIG one byte over; a DATA of length 0 and a type 7 that is not checked. -/
theorem witness_parse :
    ([0x3F, 0, 1, 0, 0, 1, 0x90] : Datagram).length < 8 ∧
    (((0x3F#8).toNat / 16 = 3 ∨ (0x3F#8).toNat / 16 = 6) ∧ ([0xAA] : Datagram).length ≠ (2#8).toNat) ∧
    (((0x6F#8).toNat / 16 = 3 ∨ (0x6F#8).toNat / 16 = 6) ∧ ([1] : Datagram).length ≠ (0#8).toNat) ∧
    (((0x3F#8).toNat / 16 = 3 ∨ (0x3F#8).toNat / 16 = 6) → ([] : Datagram).length = (0#8).toNat) ∧
    (((0x7F#8).toNat / 16 = 3 ∨ (0x7F#8).toNat / 16 = 6) → ([] : Datagram).length = (5#8).toNat) := by decide
theorem witness_tableWord : 0xFFFFFFFFFFFFFFFF < 2 ^ 64 ∧ decodeTableWord 64 0xFFFFFFFFFFFFFFFF = some (.type15 ⟨0xFFFF, 0xFFFF, 0xFFFF, 0xFF, []⟩) := by decide
/-- Each of the three receiving operations. -/
theorem witness_stepRuns :
    offered (.rspRx 0 0 []) (queued [0x4F, 0, 0, 0, 1, 1, 0x90, 0] 0 fresh) = some [0x4F, 0, 0, 0, 1, 1, 0x90, 0] ∧
    offered (.iniHsStep 0 true 0) { fresh with iniQueue := [[0x4F, 0, 0, 0, 1, 1, 0x90, 0]] } = some [0x4F, 0, 0, 0, 1, 1, 0x90, 0] ∧
    offered (.sndRecv 0 true) { fresh with iniQueue := [[0x4F, 0, 0, 0, 1, 1, 0x90, 0]] } = some [0x4F, 0, 0, 0, 1, 1, 0x90, 0] ∧
    decode [0x4F, 0, 0, 0, 1, 1, 0x90, 0] = .ok (.ack ⟨0, 1, 400, 0, []⟩) := by decide
theorem witness_fetchedWord : decodeTableWord 64 0x2F00010002000300 = some (.synAck ⟨1, 2, 3, 0, []⟩) := by decide
theorem witness_idle : fresh.script = [] := by decide
/-- Each operation with an enabling condition, while it is false. -/
theorem witness_disabled :
    (invoke synSent (.iniCfgWrite 5)).ini.conn ≠ .closed ∧ (invoke synSent (.iniConnect 1001 5)).ini.conn ≠ .closed ∧
    (invoke fresh (.iniHsStep 1 false 0)).ini.conn ≠ .synSent ∧
    ¬((invoke flight (.sndFill 1030 40)).ini.conn = .established ∧ (invoke flight (.sndFill 1030 40)).ini.phase = .fill) ∧
    ¬((invoke filling (.sndRecv 1030 true)).ini.conn = .established ∧ (invoke filling (.sndRecv 1030 true)).ini.phase = .recv) ∧
    ¬((invoke fresh (.sndTchk 1030)).ini.conn = .established ∧ (invoke fresh (.sndTchk 1030)).ini.phase = .tchk) ∧
    refuses (step (invoke fresh (.sndTchk 1030))) (.notEnabled "SND.TCHK") = true := by decide

/-- No record and an unbounded table; no record and room for exactly one more; a record in a full table; no record in a full table. -/
theorem witness_rspSyn :
    ((rxFrom (peerAt .established 3) 2 0).rsp.find 2 = none ∧ (rxFrom (peerAt .established 3) 2 0).par.maxPeers = none) ∧
    (∀ m, (some 2 : Option Nat) = some m → 1 ≤ m ∧ (peerAt .established 3).rsp.peers.length < m) ∧
    (rxFrom (peerAt .established 3) 1 0).rsp.find 1 ≠ none ∧
    ((rxFrom (peerAt .established 3) 2 0).rsp.find 2 = none ∧ ∃ m, (some 1 : Option Nat) = some m ∧ 1 ≤ m ∧
      m ≤ (peerAt .established 3).rsp.peers.length) := by
  refine ⟨by decide, ?_, by decide, by decide, 1, rfl, by decide, by decide⟩
  intro m h; cases h; decide
theorem witness_rspAck :
    (rxFrom (peerAt .synReceived 0) 1 0).rsp.find 1 = some ⟨1, .synReceived, 0, 5⟩ ∧ (rxFrom fresh 1 0).rsp.find 1 = none ∧
    (rxFrom (peerAt .established 0) 1 0).rsp.find 1 = some ⟨1, .established, 0, 5⟩ ∧
    (rxFrom fresh 1 0).rxOp = .rspRx 1 0xABCD 0 [] := by decide
theorem witness_rspFin : (rxFrom (peerAt .synReceived 0) 1 0).rsp.find 1 ≠ none ∧ (rxFrom fresh 1 0).rsp.find 1 = none := by decide
theorem witness_rspDataRejected :
    (rxFrom fresh 1 0).rsp.find 1 = none ∧ ∃ r, (rxFrom (peerAt .synReceived 0) 1 0).rsp.find 1 = some r ∧ r.state = .synReceived :=
  ⟨by decide, ⟨1, .synReceived, 0, 5⟩, by decide, rfl⟩
/-- The loss draw just below the rate 30, and just at it with the expected sequence number and with another one. -/
theorem witness_rspData :
    (rxFrom (peerAt .established 3) 1 29).rsp.find 1 = some ⟨1, .established, 3, 5⟩ ∧ ([] : List Byte).length = fresh.par.ackTsLen.toNat ∧
    (29 : Fin 100).val < (rxFrom (peerAt .established 3) 1 29).rsp.dropPct.toNat ∧
    (rxFrom (peerAt .established 3) 1 30).rsp.dropPct.toNat ≤ (30 : Fin 100).val ∧ (3 : Seq) = 3 ∧ (4 : Seq) ≠ 3 := by decide
theorem witness_rspIgnores :
    (Instr.type0 ⟨0, 0, 0, 0, []⟩).unassigned = true ∧ (Instr.type7 ⟨0, 0, 0, 0, []⟩).unassigned = true ∧
    (Instr.type15 ⟨0, 0, 0, 0, []⟩).unassigned = true ∧ (rxFrom fresh 1 0).rxOp = .rspRx 1 0xABCD 0 [] := by decide
theorem witness_rspMalformed :
    (queued [0x3F, 0] 0 fresh).script = [.op (.rspRx 0xABCD 0 [])] ∧ (queued [0x3F, 0] 0 fresh).rspQueue = [(1, [0x3F, 0])] ∧
    decode [0x3F, 0] = .error .shortHeader := by decide
/-- A rate of 0 at the lowest draw, and of 100 at the highest. -/
theorem witness_lossPolicy :
    nextIs (exec (.data ⟨3, 0, 400, 0, []⟩) { rxFrom (peerAt .established 3) 1 0 with
      rsp := { (peerAt .established 3).rsp with dropPct := 0 } }) (fun t => t.out.status == some .dataInOrder) = true ∧
    nextIs (exec (.data ⟨3, 0, 400, 0, []⟩) { rxFrom (peerAt .established 3) 1 99 with
      rsp := { (peerAt .established 3).rsp with dropPct := 100 } }) (fun t => t.out.status == some .dataDropped) = true := by decide
/-- A dropped, a rejected, a malformed and an accepted datagram. -/
theorem witness_counts :
    nextIs (step (queued [0x3F, 0, 3, 0, 0, 1, 0x90, 0] 29 (peerAt .established 3))) (fun t => t.rsp.dropCount == 1) = true ∧
    nextIs (step (queued [0x3F, 0, 3, 0, 0, 1, 0x90, 0] 29 fresh)) (fun t => t.rsp.rejectCount == 1) = true ∧
    nextIs (step (queued [0x3F, 0, 3, 0, 0, 1, 0x90, 1] 29 fresh)) (fun t => t.rsp.malformedCount == 1) = true ∧
    nextIs (step (queued [0x3F, 0, 3, 0, 0, 1, 0x90, 0] 30 (peerAt .established 3))) (fun t => t.rsp.rejectCount == 0) = true := by decide
theorem witness_rspCompletes : (queued [0x3F, 0] 0 fresh).rspQueue ≠ [] ∧ ([] : List Byte).length = fresh.par.ackTsLen.toNat := by decide
theorem witness_rspFrame :
    nextIs (exec (.syn ⟨2, 0, 400, 0, []⟩) (rxFrom (peerAt .established 3) 2 0)) (fun t => t.rsp.peers.length == 2) = true ∧ (1 : Addr) ≠ 2 := by decide
/-- A full table in which both addresses hold a record. -/
theorem witness_commuteBounded : ∃ t u t' u',
    let s : State := { peerAt .established 3 with
      par := ⟨1, 0, some 2, 7⟩, rsp := { Responder.reset with peers := [⟨1, .established, 3, 5⟩, ⟨2, .synReceived, 0, 6⟩] } }
    (s.rsp.find 1 ≠ none ∧ s.rsp.find 2 ≠ none) ∧ s.rsp.full s.par = true ∧
    exec (.fin ⟨3, 0, 400, 0, []⟩) (rxFrom s 1 0) = .next t ∧ exec (.syn ⟨2, 0, 400, 0, []⟩) (rxFrom t 2 0) = .next u ∧
    exec (.syn ⟨2, 0, 400, 0, []⟩) (rxFrom s 2 0) = .next t' ∧ exec (.fin ⟨3, 0, 400, 0, []⟩) (rxFrom t' 1 0) = .next u' :=
  ⟨_, _, _, _, by decide, by decide, rfl, rfl, rfl, rfl⟩
theorem witness_commute : ∃ t u t' u', (1 : Addr) ≠ 2 ∧ (peerAt .established 3).par.maxPeers = none ∧
    exec (.data ⟨3, 0, 400, 0, []⟩) (rxFrom (peerAt .established 3) 1 50) = .next t ∧
    exec (.syn ⟨2, 0, 400, 0, []⟩) (rxFrom t 2 0) = .next u ∧
    exec (.syn ⟨2, 0, 400, 0, []⟩) (rxFrom (peerAt .established 3) 2 0) = .next t' ∧
    exec (.data ⟨3, 0, 400, 0, []⟩) (rxFrom t' 1 50) = .next u' :=
  ⟨_, _, _, _, by decide, by decide, rfl, rfl, rfl, rfl⟩
theorem witness_outOfOrder : ∃ t u, (peerAt .established 3).rsp.find 1 = some ⟨1, .established, 3, 5⟩ ∧
    exec (.data ⟨4, 0, 400, 0, []⟩) (rxFrom (peerAt .established 3) 1 50) = .next t ∧
    exec (.data ⟨3, 0, 400, 0, []⟩) (rxFrom t 1 50) = .next u ∧ u.out.status ≠ some .dataDropped :=
  ⟨_, _, by decide, rfl, rfl, by decide⟩
/-- The four ways a peer's state changes. -/
theorem witness_peerState :
    nextIs (step (invoke (peerAt .established 3) .rspReset)) (fun t => t.rsp.find 1 == none) = true ∧
    nextIs (step (queued [0x1F, 0, 3, 0, 0, 1, 0x90, 0] 0 (peerAt .established 3))) (fun t =>
      (t.rsp.find 1).map Peer.state == some .synReceived) = true ∧
    nextIs (step (queued [0x4F, 0, 3, 0, 0, 1, 0x90, 0] 0 (peerAt .synReceived 3))) (fun t =>
      (t.rsp.find 1).map Peer.state == some .established) = true ∧
    nextIs (step (queued [0x5F, 0, 3, 0, 0, 1, 0x90, 0] 0 (peerAt .established 3))) (fun t => t.rsp.find 1 == none) = true := by decide

/-- The source payload memory of exactly the premise's length for TARGET = 20: 40 * 19 + 80 = 840. -/
theorem witness_connect :
    srcSuffices { fresh with srcLen := 840, ini := { fresh.ini with target := 20 } } ∧ fresh.ini.conn = .closed ∧
    fresh.lastNow ≤ (0 : Time) := ⟨fun _ => by decide, by decide, by decide⟩
/-- One tick past the timeout, at the first and at the fifth attempt. -/
theorem witness_hsExpired :
    HsExpired (hsAt 1301) 1301 0x7777 ∧ (hsAt 1301).ini.attempts.toNat < 5 ∧
    HsExpired { hsAt 5801 with ini := { synSent.ini with attempts := 5, rto := 4800 } } 5801 0x7777 ∧ (5#3).toNat = 5 :=
  ⟨⟨by decide, by decide, by decide, by decide, by decide⟩, by decide, ⟨by decide, by decide, by decide, by decide, by decide⟩, by decide⟩
/-- At the last tick of the attempt and at its first. -/
theorem witness_hsOpen : HsOpen (hsAt 1300) 1300 0x7777 ∧ HsOpen (hsAt 1000) 1000 0x7777 :=
  ⟨⟨by decide, by decide, by decide, by decide, by decide⟩, ⟨by decide, by decide, by decide, by decide, by decide⟩⟩
theorem witness_synAck : (0x1235 : Seq) = (hsAt 1300).ini.isn + 1 ∧ (0x1234 : Seq) ≠ (hsAt 1300).ini.isn + 1 := by decide
/-- An offer while nothing waits (`iniQueue` empty) and a malformed datagram. -/
theorem witness_hsMalformed : decode [0x2F, 0xAB, 0xCD, 0x12] = .error .shortHeader ∧ (hsAt 1300).iniQueue = [] := by decide
theorem witness_silent :
    fresh.ini.conn = .closed ∧ fresh.lastNow ≤ (1000 : Time) ∧ srcSuffices fresh ∧ fresh.par.ticksPerMs = 1 ∧
    (1000 : Time).toNat + 9305 < 2 ^ 64 := ⟨by decide, by decide, fun h => absurd h (by decide), by decide, by decide⟩
/-- The five listed changes. -/
theorem witness_connection :
    nextIs (step (invoke flight .iniReset)) (fun t => t.ini.conn == .closed) = true ∧
    nextIs (step (invoke fresh (.iniConnect 5 6))) (fun t => t.ini.conn == .synSent) = true ∧
    nextIs (step { invoke synSent (.iniHsStep 1300 true 0) with iniQueue := [[0x2F, 0xAB, 0xCD, 0x12, 0x35, 1, 0x90, 0]] })
      (fun t => t.ini.conn == .established) = true ∧
    nextIs (step { invoke synSent (.iniHsStep 5801 false 0) with ini := { synSent.ini with attempts := 5, rto := 4800 } })
      (fun t => t.ini.conn == .closed) = true ∧
    nextIs (step (invoke { fresh with ini := { fresh.ini with conn := .established } } (.sndFill 0 40)))
      (fun t => t.ini.conn == .closed) = true := by decide

theorem witness_fillFin :
    SndEnabled { filling with ini := { filling.ini with target := 0 } } .fill 1020 ∧ ({ filling.ini with target := 0 } : Initiator).base = 0 :=
  ⟨⟨by decide, by decide, by decide⟩, by decide⟩
/-- The smallest and the largest draw, the memory exactly long enough; and the window with one byte left. -/
theorem witness_fillSend :
    SndEnabled filling .fill 1020 ∧ filling.ini.base < filling.ini.target ∧ filling.ini.nextSeq < filling.ini.target ∧
    filling.ini.bytesInFlight.toNat < 400 ∧ 40 * filling.ini.nextSeq.toNat + min 80 (400 - filling.ini.bytesInFlight.toNat) ≤ 160 ∧
    40 * filling.ini.nextSeq.toNat + min 40 (400 - filling.ini.bytesInFlight.toNat) ≤ 120 ∧ min 80 (400 - (399#9).toNat) = 1 :=
  ⟨⟨by decide, by decide, by decide⟩, by decide, by decide, by decide, by decide, by decide, by decide⟩
theorem witness_fillClosed :
    SndEnabled { filling with ini := { filling.ini with target := 2 } } .fill 1020 ∧
    (({ filling.ini with target := 2 } : Initiator).base < 2 ∧ filling.ini.nextSeq = 2) ∧
    SndEnabled { filling with ini := { filling.ini with bytesInFlight := 400 } } .fill 1020 :=
  ⟨⟨by decide, by decide, by decide⟩, by decide, ⟨by decide, by decide, by decide⟩⟩
theorem witness_recvNone : SndEnabled flight .recv 1020 ∧ flight.iniQueue = [] ∧ decode [0x4F, 0] = .error .shortHeader :=
  ⟨⟨by decide, by decide, by decide⟩, by decide, by decide⟩
theorem witness_sndOpen : SndOpen (recvAt 1020) 1020 ∧ (Instr.config ⟨0, 0, 400, 1, [0xC8]⟩).wellFormed = true ∧
    (Instr.config ⟨0, 0, 400, 0, []⟩).wellFormed = true :=
  ⟨⟨by decide, by decide, by decide, by decide⟩, by decide, by decide⟩
/-- ACKs that release one entry, all entries with `ack` far above, and (at the base 0 there is none lower) a stale one after the base has moved. -/
theorem witness_ack :
    SndOpen (recvAt 1031) 1031 ∧ IniInv (recvAt 1031) ∧ (0 : Seq) < 1 ∧
    (recvAt 1031).ini.pend.filter (fun e => e.seq < (1 : Seq)) = [entry 0 40 1011] ∧
    (recvAt 1031).ini.pend.filter (fun e => (65535 : Seq) ≤ e.seq) = [] :=
  ⟨⟨by decide, by decide, by decide, by decide⟩, flight_inv _ .recv rfl rfl rfl, by decide, by decide, by decide⟩
/-- All packets acknowledged, the last ACK arrives again: `ack` equals the base. -/
theorem witness_staleAck :
    let s : State := { recvAt 1031 with ini := { flight.ini with base := 2, pend := [], bytesInFlight := 0, timerRunning := false } }
    SndOpen s 1031 ∧ IniInv s ∧ (0 : Seq) < 2 ∧ (2 : Seq) ≤ s.ini.base := by
  refine ⟨⟨by decide, by decide, by decide, by decide⟩, ⟨by decide, fun h => (by cases h), fun _ => ?_, fun _ => ?_⟩, by decide, by decide⟩
  · exact ⟨by decide, by decide, by decide, fun e he => (by cases he), by decide, by decide, by decide, by decide, by decide, by decide⟩
  · unfold RtoInv
    rw [if_neg (by decide)]
    exact ⟨0, by decide⟩
/-- Exactly the timeout, one tick more, and the timer stopped. -/
theorem witness_tchk :
    SndEnabled (inPhase .tchk) .tchk 1312 ∧ (inPhase .tchk).ini.rto < (1312 : Time).toNat - (inPhase .tchk).ini.timerStart.toNat ∧
    (inPhase .tchk).ini.timerRunning = true ∧ ascending Pending.key (inPhase .tchk).ini.pend = true ∧
    (inPhase .tchk).ini.timerStart ≤ (1311 : Time) ∧
    (1311 : Time).toNat - (inPhase .tchk).ini.timerStart.toNat ≤ (inPhase .tchk).ini.rto ∧
    SndEnabled { fresh with ini := { fresh.ini with conn := .established, phase := .tchk } } .tchk 0 ∧ fresh.ini.timerRunning = false :=
  ⟨⟨by decide, by decide, by decide⟩, by decide, by decide, by decide, by decide, by decide, ⟨by decide, by decide, by decide⟩, by decide⟩
/-- The transfer before and after a retransmission, from a state that meets the invariant. -/
theorem witness_stored : IniInv (invoke (inPhase .tchk) (.sndTchk 1312)) ∧
    nextIs (step (invoke (inPhase .tchk) (.sndTchk 1312))) (fun t => t.ini.conn == .established && t.ini.pend.length == 2) = true :=
  ⟨flight_inv _ .tchk rfl rfl rfl, by decide⟩
/-- The base moves from 0 to 1, from a state that meets the invariant. -/
theorem witness_base : IniInv { invoke flight (.sndRecv 1031 true) with iniQueue := [[0x4F, 0, 0, 0, 1, 1, 0x90, 0]] } ∧
    nextIs (step { invoke flight (.sndRecv 1031 true) with iniQueue := [[0x4F, 0, 0, 0, 1, 1, 0x90, 0]] }) (fun t =>
      t.ini.conn == .established && t.ini.base == 1) = true :=
  ⟨flight_inv _ .recv rfl rfl rfl, by decide⟩

theorem witness_samples : ({ fresh.ini with samp := List.replicate 10 7 } : Initiator).samp.length = 10 ∧
    fresh.ini.samp.length ≠ 10 ∧ fresh.ini.samp.length ≤ 10 := by decide
theorem witness_resets : (invoke flight .iniReset).script = [.op .iniReset] ∧ (invoke flight .rspReset).script = [.op .rspReset] := by decide
theorem witness_configuration :
    (invoke fresh (.iniCfgWrite 65535)).ini.conn = .closed ∧ (100#8).toNat ≤ 100 ∧ 100 < (101#8).toNat := by decide
theorem witness_codec : hcDecode [0x3F, 0, 1, 0, 0, 1, 0x90] = .error .shortHeader ∧ decode [0x6F, 0, 0, 0, 0, 1, 0x90, 1] = .error .lengthMismatch ∧
    (invoke fresh (.hcDecode [])).script = [.op (.hcDecode [])] := by decide
theorem witness_channel :
    ({ fresh with toRsp := [[1]], toIni := [(7, [2]), (8, [3])] } : State).toRsp[0]? = some [1] ∧
    ({ fresh with toRsp := [[1]], toIni := [(7, [2]), (8, [3])] } : State).toIni[0]? = some (fresh.par.iniAddr, [2]) ∧
    ({ fresh with toRsp := [[1]], toIni := [(7, [2]), (8, [3])] } : State).toIni[1]? = some (8, [3]) ∧ (8 : Addr) ≠ fresh.par.iniAddr := by decide
/-- The last byte and the first past it. -/
theorem witness_source : filling.srcWf = true ∧ 899 < filling.srcLen ∧ filling.srcLen ≤ 900 := by decide
theorem witness_noFault : srcSuffices (invoke filling (.sndFill 1030 80)) ∧
    nextIs (step (invoke filling (.sndFill 1030 80))) (fun t => t.srcLen == 900) = true := ⟨fun _ => by decide, by decide⟩
/-- One enabled operation of each kind, at the earliest `now` and at both ends of the chunk draw. -/
theorem witness_enabled :
    (IniInv (invoke filling (.sndFill 1020 40)) ∧ srcSuffices (invoke filling (.sndFill 1020 40)) ∧ filling.lastNow ≤ (1020 : Time) ∧
      (invoke filling (.sndFill 1020 80)).ini.phase = .fill) ∧
    IniInv (invoke (inPhase .recv) (.sndRecv 1020 true)) ∧ IniInv (invoke (inPhase .tchk) (.sndTchk 1020)) ∧
    (invoke fresh (.iniConnect 0 9)).ini.conn = .closed ∧ IniInv (invoke synSent (.iniHsStep 1000 true 0)) :=
  ⟨⟨flight_inv _ .fill rfl rfl rfl, fun _ => by decide, by decide, by decide⟩, flight_inv _ .recv rfl rfl rfl,
    flight_inv _ .tchk rfl rfl rfl, by decide,
    ⟨by decide, fun _ => ⟨by decide, by decide, by decide, by decide, by decide, by decide⟩, fun h => (by cases h), fun h => (by cases h)⟩⟩
theorem witness_invariants :
    IniInv (invoke (inPhase .tchk) (.sndTchk 1312)) ∧ nextIs (step (invoke (inPhase .tchk) (.sndTchk 1312))) (fun _ => true) = true ∧
    RspInv (queued [0x1F, 0, 3, 0, 0, 1, 0x90, 0] 0 (peerAt .established 3)) ∧
    nextIs (step (queued [0x1F, 0, 3, 0, 0, 1, 0x90, 0] 0 (peerAt .established 3))) (fun _ => true) = true ∧
    ({ filling with script := [.env (.srcWrite 81 0)] } : State).srcWf = true ∧
    nextIs (step { filling with script := [.env (.srcWrite 81 0)] }) (fun t => t.src == [(80, 0xAA)]) = true :=
  ⟨flight_inv _ .tchk rfl rfl rfl, by decide, ⟨by decide, fun m h => (by cases h), by decide⟩, by decide, by decide, by decide⟩
theorem witness_units :
    nextIs (step (invoke flight .rspReset)) (fun t => t.ini == flight.ini) = true ∧ Operation.rspReset.ofInitiator = false ∧
    nextIs (step (invoke flight .iniReset)) (fun t => t.rsp == flight.rsp) = true ∧ Operation.iniReset.ofResponder = false ∧
    nextIs (step { flight with script := [.env (.injectIni [1])] }) (fun t => t.iniQueue == [[1]]) = true := by decide
/-- Two states that differ in the responder and in what is in flight. -/
theorem witness_ownSide :
    (invoke flight (.sndRecv 1031 true)).ini = (invoke { flight with rsp := (peerAt .established 3).rsp, toIni := [(7, [1])] } (.sndRecv 1031 true)).ini ∧
    flight.rsp ≠ (peerAt .established 3).rsp ∧ (Operation.sndRecv 1031 true).ofInitiator = true ∧
    nextIs (step (invoke flight (.sndRecv 1031 true))) (fun _ => true) = true := by decide
theorem witness_time : (1019 : Time) < flight.lastNow ∧ nextIs (step (invoke flight (.sndRecv 1031 true))) (fun t => t.lastNow == 1031) = true ∧
    refuses (step (invoke flight (.sndRecv 1019 true))) .timeBackwards = true := by decide

end Sys2Proof.Tests
end

/-! # What every step leaves alone, which invocations are refused, and which complete (spec/00_scope.md R2, R13, R16, R20) -/

namespace Sys2Proof.Machine

/-! ## The two frames (R2, R20): what an operation of one unit leaves of the other -/

/-- The parameters, the Responder unit and the clock are as before: the frame of what runs in the Initiator unit. -/
structure SparesResponder (s t : State) : Prop where
  par : t.par = s.par
  rsp : t.rsp = s.rsp
  lastNow : t.lastNow = s.lastNow

/-- The parameters, the Initiator unit, the clock and the responder's queue are as before: the frame of what runs in the Responder
unit once its datagram is taken off the queue. -/
structure SparesInitiator (s t : State) : Prop where
  par : t.par = s.par
  ini : t.ini = s.ini
  lastNow : t.lastNow = s.lastNow
  rspQueue : t.rspQueue = s.rspQueue

/-! ## What the arms of the initiator's receiving operations keep, and when they answer -/

theorem hsSynAck_sparesResponder (sequence ack : Seq) (s : State) : SparesResponder s (hsSynAck sequence ack s) := by
  unfold hsSynAck
  split <;> exact ⟨rfl, rfl, rfl⟩

theorem sndConfig_sparesResponder (p : Pkt) (s : State) : SparesResponder s (sndConfig p s) := by
  unfold sndConfig
  split
  · split <;> exact ⟨rfl, rfl, rfl⟩
  · exact ⟨rfl, rfl, rfl⟩

/-- An ACK that is processed changes the Initiator unit and the outputs only (R227). -/
theorem sndAck_sparesResponder {ack : Seq} {now : Time} {s t : State} (h : sndAck ack now s = .next t) : SparesResponder s t := by
  unfold sndAck sndAckPositive at h
  split at h
  · split at h
    · cases h
      rw [emitSamples_eq]
      exact ⟨rfl, rfl, rfl⟩
    · cases h
  · cases h
    exact ⟨rfl, rfl, rfl⟩

/-- An ACK is processed at any `now` that no pending entry was sent after (R13, R227). -/
theorem sndAck_completes {ack : Seq} {now : Time} {s : State} (hsent : ∀ e ∈ s.ini.pend, e.sendTime ≤ now) :
    ∃ t, sndAck ack now s = .next t := by
  have hall : (s.ini.newlyAcked ack).all (fun e => decide (e.sendTime ≤ now)) = true :=
    List.all_eq_true.mpr fun e he => decide_eq_true (hsent e (List.mem_filter.mp he).1)
  unfold sndAck sndAckPositive
  rw [if_pos hall]
  split <;> exact ⟨_, rfl⟩

/-! ## What the arms of RSP.RX keep, and when they answer -/

theorem rspSyn_sparesInitiator (addr : Addr) (lseq clientSeq : Seq) (s : State) :
    SparesInitiator s (rspSyn addr lseq clientSeq s) := by
  unfold rspSyn
  split <;> exact ⟨rfl, rfl, rfl, rfl⟩

theorem rspAck_sparesInitiator (addr : Addr) (s : State) : SparesInitiator s (rspAck addr s) := by
  unfold rspAck
  split
  · exact ⟨rfl, rfl, rfl, rfl⟩
  · split <;> exact ⟨rfl, rfl, rfl, rfl⟩

theorem rspFin_sparesInitiator (addr : Addr) (senderSeq : Seq) (s : State) : SparesInitiator s (rspFin addr senderSeq s) := by
  unfold rspFin
  split <;> exact ⟨rfl, rfl, rfl, rfl⟩

theorem acceptData_sparesInitiator (r : Peer) (sequence : Seq) (payload ts : List Byte) (s : State) :
    SparesInitiator s (acceptData r sequence payload ts s) := by
  unfold acceptData
  split <;> exact ⟨rfl, rfl, rfl, rfl⟩

/-- Everything the DATA arm can do when it answers a next state (R267, R291, R290). -/
theorem rspData_next {addr : Addr} {sequence : Seq} {payload ts : List Byte} {loss : Fin 100} {s t : State}
    (h : rspData addr sequence payload loss ts s = .next t) :
    t = rspReject s ∨ t = (s.setRsp s.rsp.countDrop).setStatus .dataDropped ∨
      ∃ r, s.rsp.find addr = some r ∧ t = acceptData r sequence payload ts s := by
  unfold rspData at h
  split at h
  · cases h; exact .inl rfl
  · split at h
    · cases h; exact .inl rfl
    · split at h
      · cases h; exact .inr (.inl rfl)
      · split at h
        · cases h; exact .inr (.inr ⟨_, ‹_›, rfl⟩)
        · cases h

theorem rspData_sparesInitiator {addr : Addr} {sequence : Seq} {payload ts : List Byte} {loss : Fin 100} {s t : State}
    (h : rspData addr sequence payload loss ts s = .next t) : SparesInitiator s t := by
  obtain rfl | rfl | ⟨r, -, rfl⟩ := rspData_next h
  · exact ⟨rfl, rfl, rfl, rfl⟩
  · exact ⟨rfl, rfl, rfl, rfl⟩
  · exact acceptData_sparesInitiator r sequence payload ts s

/-- The DATA arm answers whenever the draw `ts` has its length (R15, R260). -/
theorem rspData_completes (addr : Addr) (sequence : Seq) (payload : List Byte) (loss : Fin 100) {ts : List Byte} {s : State}
    (hts : tsInRange s.par ts = true) : ∃ t, rspData addr sequence payload loss ts s = .next t := by
  simp only [rspData, hts, if_true]
  split
  · exact ⟨_, rfl⟩
  · split
    · exact ⟨_, rfl⟩
    · split <;> exact ⟨_, rfl⟩

/-! ## Handlers: how a consumed datagram is handled by each receiving operation -/

/-- In each receiving operation the handler keeps to its own unit, and it answers unless a draw or a time is outside its premise
(R13, R15). -/
structure Handlers.Sound (h : Handlers) : Prop where
  hsFrame : ∀ s, SparesResponder s (h.hs s)
  sndFrame : ∀ {now s t}, h.snd now s = .next t → SparesResponder s t
  sndCompletes : ∀ {now s}, (∀ e ∈ s.ini.pend, e.sendTime ≤ now) → ∃ t, h.snd now s = .next t
  rspFrame : ∀ {addr lseq loss ts s t}, h.rsp addr lseq loss ts s = .next t → SparesInitiator s t
  rspCompletes : ∀ addr lseq loss ts s, tsInRange s.par ts = true → ∃ t, h.rsp addr lseq loss ts s = .next t

theorem ignored_sound : ignored.Sound where
  hsFrame _ := ⟨rfl, rfl, rfl⟩
  sndFrame h := by cases h; exact ⟨rfl, rfl, rfl⟩
  sndCompletes _ := ⟨_, rfl⟩
  rspFrame h := by cases h; exact ⟨rfl, rfl, rfl, rfl⟩
  rspCompletes _ _ _ _ _ _ := ⟨_, rfl⟩

theorem malformed_sound : malformed.Sound where
  hsFrame _ := ⟨rfl, rfl, rfl⟩
  sndFrame h := by cases h; exact ⟨rfl, rfl, rfl⟩
  sndCompletes _ := ⟨_, rfl⟩
  rspFrame h := by cases h; exact ⟨rfl, rfl, rfl, rfl⟩
  rspCompletes _ _ _ _ _ _ := ⟨_, rfl⟩

/-- Every packet is ignored by the receiving operations that have no arm for it, and its own arms are sound. -/
theorem exec_sound (i : Instr) : ∃ h : Handlers, h.Sound ∧ ∀ s, exec i s = receive (some h) s := by
  cases i with
  | syn p =>
    refine ⟨_, ?_, fun _ => rfl⟩
    exact { ignored_sound with
      rspFrame := fun h => by cases h; exact rspSyn_sparesInitiator _ _ _ _
      rspCompletes := fun _ _ _ _ _ _ => ⟨_, rfl⟩ }
  | synAck p =>
    refine ⟨_, ?_, fun _ => rfl⟩
    exact { ignored_sound with hsFrame := hsSynAck_sparesResponder p.sequence p.ack }
  | data p =>
    refine ⟨_, ?_, fun _ => rfl⟩
    exact { ignored_sound with
      rspFrame := rspData_sparesInitiator
      rspCompletes := fun addr _ loss _ _ hts => rspData_completes addr p.sequence p.payload loss hts }
  | ack p =>
    refine ⟨_, ?_, fun _ => rfl⟩
    exact { ignored_sound with
      sndFrame := sndAck_sparesResponder
      sndCompletes := sndAck_completes
      rspFrame := fun h => by cases h; exact rspAck_sparesInitiator _ _
      rspCompletes := fun _ _ _ _ _ _ => ⟨_, rfl⟩ }
  | fin p =>
    refine ⟨_, ?_, fun _ => rfl⟩
    exact { ignored_sound with
      rspFrame := fun h => by cases h; exact rspFin_sparesInitiator _ _ _
      rspCompletes := fun _ _ _ _ _ _ => ⟨_, rfl⟩ }
  | config p =>
    refine ⟨_, ?_, fun _ => rfl⟩
    exact { ignored_sound with
      sndFrame := fun h => by cases h; exact sndConfig_sparesResponder _ _
      sndCompletes := fun _ => ⟨_, rfl⟩ }
  | type0 | type7 | type8 | type9 | type10 | type11 | type12 | type13 | type14 | type15 =>
    exact ⟨ignored, ignored_sound, fun _ => rfl⟩

/-- An operation that is offered a datagram is one shared receive with a sound handler, whether the datagram parses or not. -/
theorem runOp_offered {o : Operation} {s : State} {d : Datagram} (ho : offered o s = some d) :
    ∃ h : Handlers, h.Sound ∧ runOp o s = receive (some h) (latch o s) := by
  unfold runOp
  rw [ho]
  dsimp only
  split
  · obtain ⟨h, hsound, hexec⟩ := exec_sound _
    exact ⟨h, hsound, hexec _⟩
  · exact ⟨malformed, malformed_sound, rfl⟩

/-- A receiving operation is one shared receive, with a sound handler or with none. -/
theorem runOp_receive_sound {o : Operation} {s : State} (hp : ∀ t, runPlain o t = receive none t) :
    ∃ rx : Option Handlers, (∀ h ∈ rx, h.Sound) ∧ runOp o s = receive rx (latch o s) := by
  cases ho : offered o s with
  | none =>
    refine ⟨none, nofun, ?_⟩
    unfold runOp
    rw [ho]
    exact hp _
  | some d =>
    obtain ⟨h, hsound, hrun⟩ := runOp_offered ho
    exact ⟨some h, fun _ he => Option.some.inj he ▸ hsound, hrun⟩

/-! ## The frame of each timed operation of the initiator: `lastNow` becomes `now`, the responder is spared -/

theorem opConnect_frame {s t : State} {now : Time} {isn : Seq} (h : opConnect now isn s = .next t) :
    SparesResponder (s.touch now) t := by
  obtain ⟨-, -, -, rfl⟩ := opConnect_next h
  exact ⟨rfl, rfl, rfl⟩

theorem hsStep_frame {s t : State} {now : Time} {isn2 : Seq} {rx : Option Handlers} (hrx : ∀ h ∈ rx, h.Sound)
    (h : hsStep now isn2 (rx.map Handlers.hs) s = .next t) : SparesResponder (s.touch now) t := by
  obtain ⟨-, -, -, ⟨-, -, rfl⟩ | ⟨-, -, rfl⟩ | ⟨-, -, rfl⟩ | ⟨-, f, hf, rfl⟩⟩ := hsStep_next h
  · exact ⟨rfl, rfl, rfl⟩
  · exact ⟨rfl, rfl, rfl⟩
  · exact ⟨rfl, rfl, rfl⟩
  · obtain ⟨hd, hmem, rfl⟩ := Option.map_eq_some_iff.mp hf
    obtain ⟨hpar, hrsp, hnow⟩ := (hrx hd hmem).hsFrame (s.begin.touch now).popIni
    exact ⟨hpar, hrsp, hnow⟩

theorem opFill_frame {s t : State} {now : Time} {chunk : Nat} (h : opFill now chunk s = .next t) :
    SparesResponder (s.touch now) t := by
  obtain ⟨-, -, -, ⟨-, rfl⟩ | ⟨-, -, -, hsend⟩ | ⟨-, -, rfl⟩⟩ := opFill_next h
  · exact ⟨rfl, rfl, rfl⟩
  · obtain ⟨-, -, -, rfl⟩ := fillSend_next hsend
    exact ⟨rfl, rfl, rfl⟩
  · exact ⟨rfl, rfl, rfl⟩

theorem sndRecv_frame {s t : State} {now : Time} {rx : Option Handlers} (hrx : ∀ h ∈ rx, h.Sound)
    (h : sndRecv now (rx.map Handlers.snd) s = .next t) : SparesResponder (s.touch now) t := by
  obtain ⟨-, -, -, ⟨-, rfl⟩ | ⟨f, hf, hnext⟩⟩ := sndRecv_next h
  · exact ⟨rfl, rfl, rfl⟩
  · obtain ⟨hd, hmem, rfl⟩ := Option.map_eq_some_iff.mp hf
    obtain ⟨hpar, hrsp, hnow⟩ := (hrx hd hmem).sndFrame hnext
    exact ⟨hpar, hrsp, hnow⟩

theorem opTchk_frame {s t : State} {now : Time} (h : opTchk now s = .next t) : SparesResponder (s.touch now) t := by
  obtain ⟨-, -, -, ⟨-, -, -, rfl⟩ | rfl⟩ := opTchk_next h
  · rw [emitRaw_eq]
    exact ⟨rfl, rfl, rfl⟩
  · exact ⟨rfl, rfl, rfl⟩

/-! ## Each receiving operation with a sound handler -/

theorem runOp_iniHsStep (now : Time) (offer : Bool) (isn2 : Seq) (s : State) :
    ∃ rx : Option Handlers, (∀ h ∈ rx, h.Sound) ∧
      runOp (.iniHsStep now offer isn2) s = hsStep now isn2 (rx.map Handlers.hs) { s with rxOp := .hsStep now isn2 } :=
  runOp_receive_sound fun _ => rfl

theorem runOp_sndRecv (now : Time) (offer : Bool) (s : State) :
    ∃ rx : Option Handlers, (∀ h ∈ rx, h.Sound) ∧
      runOp (.sndRecv now offer) s = sndRecv now (rx.map Handlers.snd) { s with rxOp := .sndRecv now } :=
  runOp_receive_sound fun _ => rfl

theorem runOp_rspRx (lseq : Seq) (loss : Fin 100) (ts : List Byte) (s : State) :
    ∃ rx : Option Handlers, (∀ h ∈ rx, h.Sound) ∧
      runOp (.rspRx lseq loss ts) s = rspRx (rx.map fun h => h.rsp (headAddr s) lseq loss ts)
        { s with rxOp := .rspRx (headAddr s) lseq loss ts } :=
  runOp_receive_sound fun _ => rfl

/-- RSP.RX with a datagram waiting: the datagram is taken off the queue and handled, whatever its bytes (R260). -/
theorem step_rspRx {s : State} {rest : List Action} {lseq : Seq} {loss : Fin 100} {ts : List Byte}
    (hs : s.script = .op (.rspRx lseq loss ts) :: rest) (hq : s.rspQueue ≠ []) :
    ∃ h : Handlers, h.Sound ∧ step s = h.rsp (headAddr s) lseq loss ts
      ({ s with script := rest, rxOp := .rspRx (headAddr s) lseq loss ts } : State).begin.popRsp := by
  obtain ⟨⟨addr, d⟩, queue, hcons⟩ := List.exists_cons_of_ne_nil hq
  have hoffer : offered (.rspRx lseq loss ts) { s with script := rest } = some d := by simp [offered, hcons]
  obtain ⟨h, hsound, hrun⟩ := runOp_offered hoffer
  exact ⟨h, hsound, (step_op hs).trans (hrun.trans (receive_rspRx h rfl))⟩

/-- Everything RSP.RX can do when it answers a next state (R260). -/
theorem rspRx_next {rx : Option (State → Result)} {s t : State} (h : rspRx rx s = .next t) :
    ∃ f, rx = some f ∧ f s.begin.popRsp = .next t := by
  cases rx with
  | none => cases h
  | some f => exact ⟨f, rfl, h⟩

/-! ## The directly invoked HC.* operations (R140, R141, R145) -/

/-- HC.DECODE answers what the decoder answers, as its output. -/
theorem opHcDecode_codec (d : Datagram) (s : State) :
    ∃ c, opHcDecode d s = .next (s.begin.setCodec c) ∧
      (∀ h, hcDecode d = .ok h → c = .decoded h) ∧ ∀ e, hcDecode d = .error e → c = .failed e := by
  unfold opHcDecode
  cases hcDecode d with
  | ok h => exact ⟨.decoded h, rfl, fun _ he => by cases he; rfl, nofun⟩
  | error why => exact ⟨.failed why, rfl, nofun, fun _ he => by cases he; rfl⟩

/-- HC.PARSE answers what the parser answers, as its output. -/
theorem opHcParse_codec (d : Datagram) (s : State) :
    ∃ c, opHcParse d s = .next (s.begin.setCodec c) ∧
      (∀ i, decode d = .ok i → c = .parsed i) ∧ ∀ e, decode d = .error e → c = .failed e := by
  unfold opHcParse
  cases decode d with
  | ok i => exact ⟨.parsed i, rfl, fun _ he => by cases he; rfl, nofun⟩
  | error why => exact ⟨.failed why, rfl, nofun, fun _ he => by cases he; rfl⟩

/-! ## The frame of every operation and of every step -/

/-- The frame of an operation: the parameters and the units it does not belong to are as before, and the clock is not turned back. -/
structure OpFrame (o : Operation) (s t : State) : Prop where
  par : t.par = s.par
  ini : o.ofInitiator = false → t.ini = s.ini
  rsp : o.ofResponder = false → t.rsp = s.rsp
  clock : s.lastNow ≤ t.lastNow

theorem OpFrame.of_timed {o : Operation} {s t : State} {now : Time} (ho : o.ofInitiator = true) (hn : s.lastNow ≤ now)
    (h : SparesResponder (s.touch now) t) : OpFrame o s t where
  par := h.par
  ini hno := absurd (ho.symm.trans hno) Bool.true_eq_false.mp
  rsp _ := h.rsp
  clock := by rw [h.lastNow]; exact hn

/-- What changes neither unit, parameter nor clock is within the frame of every operation. -/
theorem OpFrame.of_setCodec (o : Operation) (s : State) (c : CodecResult) : OpFrame o s (s.begin.setCodec c) :=
  ⟨rfl, fun _ => rfl, fun _ => rfl, BitVec.le_refl _⟩

theorem runOp_frame {o : Operation} {s t : State} (h : runOp o s = .next t) : OpFrame o s t := by
  cases o with
  | iniReset => cases h; exact ⟨rfl, nofun, fun _ => rfl, BitVec.le_refl _⟩
  | iniCfgWrite target =>
    change opIniCfgWrite target s = .next t at h
    unfold opIniCfgWrite at h
    split at h
    · cases h; exact ⟨rfl, nofun, fun _ => rfl, BitVec.le_refl _⟩
    · cases h
  | iniConnect now isn =>
    obtain ⟨-, hn, -⟩ := opConnect_next h
    exact .of_timed rfl hn (opConnect_frame h)
  | iniHsStep now offer isn2 =>
    obtain ⟨rx, hsound, hrun⟩ := runOp_iniHsStep now offer isn2 s
    have hstep := hrun.symm.trans h
    obtain ⟨-, hn, -⟩ := hsStep_next hstep
    obtain ⟨hpar, hrsp, hnow⟩ := hsStep_frame hsound hstep
    exact .of_timed rfl hn ⟨hpar, hrsp, hnow⟩
  | sndFill now chunk =>
    obtain ⟨-, -, hn, -⟩ := opFill_next h
    exact .of_timed rfl hn (opFill_frame h)
  | sndRecv now offer =>
    obtain ⟨rx, hsound, hrun⟩ := runOp_sndRecv now offer s
    have hstep := hrun.symm.trans h
    obtain ⟨-, -, hn, -⟩ := sndRecv_next hstep
    obtain ⟨hpar, hrsp, hnow⟩ := sndRecv_frame hsound hstep
    exact .of_timed rfl hn ⟨hpar, hrsp, hnow⟩
  | sndTchk now =>
    obtain ⟨-, -, hn, -⟩ := opTchk_next h
    exact .of_timed rfl hn (opTchk_frame h)
  | rspReset => cases h; exact ⟨rfl, fun _ => rfl, nofun, BitVec.le_refl _⟩
  | rspCfgWrite pct =>
    change opRspCfgWrite pct s = .next t at h
    unfold opRspCfgWrite at h
    split at h
    · cases h; exact ⟨rfl, fun _ => rfl, nofun, BitVec.le_refl _⟩
    · cases h
  | rspRx lseq loss ts =>
    obtain ⟨rx, hsound, hrun⟩ := runOp_rspRx lseq loss ts s
    obtain ⟨f, hf, hnext⟩ := rspRx_next (hrun.symm.trans h)
    obtain ⟨hd, hmem, rfl⟩ := Option.map_eq_some_iff.mp hf
    obtain ⟨hpar, hini, hnow, -⟩ := (hsound hd hmem).rspFrame hnext
    exact ⟨hpar, fun _ => hini, nofun, by rw [hnow]; exact BitVec.le_refl _⟩
  | hcEncode hdr => cases h; exact .of_setCodec _ s _
  | hcDecode d =>
    obtain ⟨c, hc, -⟩ := opHcDecode_codec d s
    cases hc.symm.trans h
    exact .of_setCodec _ s c
  | hcParse d =>
    obtain ⟨c, hc, -⟩ := opHcParse_codec d s
    cases hc.symm.trans h
    exact .of_setCodec _ s c

theorem step_op_frame {s t : State} {o : Operation} {rest : List Action} (hs : s.script = .op o :: rest) (h : step s = .next t) :
    OpFrame o s t := by
  obtain ⟨hpar, hini, hrsp, hclock⟩ := runOp_frame ((step_op hs).symm.trans h)
  exact ⟨hpar, hini, hrsp, hclock⟩

/-- No step changes a parameter or turns the clock back (R10, R13). -/
theorem step_par_clock {s t : State} (h : step s = .next t) : t.par = s.par ∧ s.lastNow ≤ t.lastNow := by
  cases hs : s.script with
  | nil =>
    unfold step at h
    rw [hs] at h
    cases h
    exact ⟨rfl, BitVec.le_refl _⟩
  | cons a rest =>
    cases a with
    | op o => exact ⟨(step_op_frame hs h).par, (step_op_frame hs h).clock⟩
    | env e =>
      rw [step_env hs] at h
      cases h
      obtain ⟨-, -, -, hpar, hnow, -⟩ := runEnv_frame e { s with script := rest }
      exact ⟨hpar, by rw [hnow]; exact BitVec.le_refl _⟩

/-! ## When an enabled operation of the initiator answers (R13, R15, R16, R70) -/

/-- A guarded operation answers when each branch does where its guard holds. -/
theorem completes_ite {c : Prop} [Decidable c] {a b : Result} (ha : c → ∃ t, a = .next t) (hb : ¬c → ∃ t, b = .next t) :
    ∃ t, (if c then a else b) = .next t := by
  split
  · exact ha ‹_›
  · exact hb ‹_›

/-- The launch premise in its two spellings (R70, R353). -/
theorem launchPremise_of_srcSuffices {s : State} (h : srcSuffices s) : launchPremise s.srcLen s.ini.target = true := by
  unfold launchPremise
  by_cases htarget : s.ini.target = 0
  · simp [htarget]
  · have hpos : 1 ≤ s.ini.target.toNat := by bv_omega
    simp [h hpos]

/-- Below the target, the slice of the largest chunk lies within a source payload memory that meets the launch premise (R70, R225). -/
theorem slice_fits {s : State} {chunk : Nat} (hsrc : srcSuffices s) (hnext : s.ini.nextSeq < s.ini.target) (hchunk : chunk ≤ 80) :
    s.ini.sliceStart + s.ini.chunkSize chunk ≤ s.srcLen := by
  have hlt : s.ini.nextSeq.toNat < s.ini.target.toNat := hnext
  have hlen := hsrc (by omega)
  have hsize : s.ini.chunkSize chunk ≤ chunk := Nat.min_le_left _ _
  have hstart : s.ini.sliceStart = 40 * s.ini.nextSeq.toNat := rfl
  omega

theorem opConnect_completes {s : State} {now : Time} (isn : Seq) (hconn : s.ini.conn = .closed) (hn : s.lastNow ≤ now)
    (hsrc : srcSuffices s) : ∃ t, opConnect now isn s = .next t := by
  rw [opConnect, timed_run (by simp [hconn]) hn]
  exact ⟨_, if_pos (launchPremise_of_srcSuffices hsrc)⟩

theorem hsStep_completes {s : State} {now : Time} (isn2 : Seq) (rx : Option (State → State)) (hconn : s.ini.conn = .synSent)
    (hn : s.lastNow ≤ now) (hsyn : s.ini.synTime ≤ now) : ∃ t, hsStep now isn2 rx s = .next t := by
  rw [hsStep, timed_run (by simp [hconn]) hn]
  refine completes_ite (fun hlt => absurd hlt (BitVec.not_lt.mpr hsyn)) fun _ => completes_ite (fun _ => ?_) fun _ => ?_
  · exact completes_ite (fun _ => ⟨_, rfl⟩) fun _ => ⟨_, rfl⟩
  · cases rx <;> exact ⟨_, rfl⟩

theorem fillSend_completes {s : State} {now : Time} {chunk : Nat} (hlow : 40 ≤ chunk) (hhigh : chunk ≤ 80)
    (hfits : s.ini.sliceStart + s.ini.chunkSize chunk ≤ s.srcLen) : ∃ t, fillSend now chunk s = .next t := by
  have hrange : chunkInRange chunk = true := by simp [chunkInRange, hlow, hhigh]
  rw [fillSend, if_pos hrange]
  exact ⟨_, if_pos hfits⟩

theorem opFill_completes {s : State} {now : Time} {chunk : Nat} (hconn : s.ini.conn = .established) (hphase : s.ini.phase = .fill)
    (hn : s.lastNow ≤ now) (hsrc : srcSuffices s) (hlow : 40 ≤ chunk) (hhigh : chunk ≤ 80) :
    ∃ t, opFill now chunk s = .next t := by
  rw [opFill, timed_run (by simp [Initiator.inPhase, hconn, hphase]) hn]
  exact completes_ite (fun _ => ⟨_, rfl⟩) fun _ => completes_ite
    (fun ⟨hnext, _⟩ => fillSend_completes hlow hhigh (slice_fits hsrc hnext hhigh)) fun _ => ⟨_, rfl⟩

theorem sndRecv_completes {s : State} {now : Time} {rx : Option Handlers} (hrx : ∀ h ∈ rx, h.Sound)
    (hconn : s.ini.conn = .established) (hphase : s.ini.phase = .recv) (hn : s.lastNow ≤ now)
    (hsent : ∀ e ∈ s.ini.pend, e.sendTime ≤ now) : ∃ t, sndRecv now (rx.map Handlers.snd) s = .next t := by
  rw [sndRecv, timed_run (by simp [Initiator.inPhase, hconn, hphase]) hn]
  cases rx with
  | none => exact ⟨_, rfl⟩
  | some h => exact (hrx h rfl).sndCompletes hsent

theorem opTchk_completes {s : State} {now : Time} (hconn : s.ini.conn = .established) (hphase : s.ini.phase = .tchk)
    (hn : s.lastNow ≤ now) (htimer : s.ini.timerRunning = true → s.ini.timerStart ≤ now) : ∃ t, opTchk now s = .next t := by
  rw [opTchk, timed_run (by simp [Initiator.inPhase, hconn, hphase]) hn]
  exact completes_ite (fun ⟨hrun, hlt⟩ => absurd hlt (BitVec.not_lt.mpr (htimer hrun)))
    fun _ => completes_ite (fun _ => ⟨_, rfl⟩) fun _ => ⟨_, rfl⟩

/-! ## Which operation or packet a step runs (R16, R122, R145, R220) -/

/-- A sender operation is disabled outside its phase and outside ESTABLISHED (R220). -/
theorem inPhase_eq_false {i : Initiator} {p : Phase} (h : ¬(i.conn = .established ∧ i.phase = p)) : i.inPhase p = false := by
  simpa [Initiator.inPhase] using h

/-- What an operation is offered does not depend on the script (R75). -/
theorem offered_script (o : Operation) (s : State) (script : List Action) : offered o { s with script := script } = offered o s := by
  cases o <;> rfl

/-- The step of an operation that is offered a datagram which parses (R145). -/
theorem step_decoded {s : State} {o : Operation} {rest : List Action} {d : Datagram} {i : Instr} (hs : s.script = .op o :: rest)
    (ho : offered o s = some d) (hd : decode d = .ok i) : step s = exec i (latch o { s with script := rest }) := by
  rw [step_op hs, runOp, offered_script, ho]
  simp only [hd]

/-- A word of the opcode table decodes to what its datagram parses to (R122). -/
theorem decodeTableWord_eq_some {nbits w : Nat} {i : Instr} :
    decodeTableWord nbits w = some i ↔ decode (tableDatagram nbits w) = .ok i := by
  unfold decodeTableWord
  cases decode (tableDatagram nbits w) <;> simp

/-! ## The statements -/

/-- Settles O10: every operation but INI.CFG_WRITE is `timed`, whose enabling condition is the one that fails. -/
theorem disabledOperationIsRefused : Obligations.DisabledOperationIsRefused := by
  unfold Obligations.DisabledOperationIsRefused
  rintro s o rest name hs (⟨⟨target, rfl⟩, hoff, rfl⟩ | ⟨⟨now, isn, rfl⟩, hoff, rfl⟩ | ⟨⟨now, offer, isn2, rfl⟩, hoff, rfl⟩ |
    ⟨⟨now, chunk, rfl⟩, hoff, rfl⟩ | ⟨⟨now, offer, rfl⟩, hoff, rfl⟩ | ⟨⟨now, rfl⟩, hoff, rfl⟩)
  · rw [step_iniCfgWrite hs]
    exact if_neg hoff
  · rw [step_iniConnect hs]
    exact timed_disabled (by simpa using hoff)
  · obtain ⟨rx, hstep⟩ := step_iniHsStep hs
    rw [hstep]
    exact timed_disabled (by simpa using hoff)
  · rw [step_sndFill hs]
    exact timed_disabled (inPhase_eq_false hoff)
  · obtain ⟨rx, hstep⟩ := step_sndRecv hs
    rw [hstep]
    exact timed_disabled (inPhase_eq_false hoff)
  · rw [step_sndTchk hs]
    exact timed_disabled (inPhase_eq_false hoff)

/-- Settles O20: the datagram at the head is handled by a sound handler, on the state without it. -/
theorem rspRxAlwaysCompletes : Obligations.RspRxAlwaysCompletes := by
  unfold Obligations.RspRxAlwaysCompletes
  intro s rest lseq loss ts hs hq hts
  obtain ⟨h, hsound, hstep⟩ := step_rspRx hs hq
  obtain ⟨t, ht⟩ := hsound.rspCompletes (headAddr s) lseq loss ts
    ({ s with script := rest, rxOp := .rspRx (headAddr s) lseq loss ts } : State).begin.popRsp (beq_iff_eq.mpr hts)
  exact ⟨t, hstep.trans ht, (hsound.rspFrame ht).rspQueue⟩

/-- Settles O53: an enabled operation can stop only at a time before a stored one, at a short source payload memory or at a draw
outside its range; the invariant and the premises exclude all three, and the clock is part of each operation's frame. -/
theorem enabledInitiatorOperationsComplete : Obligations.EnabledInitiatorOperationsComplete := by
  unfold Obligations.EnabledInitiatorOperationsComplete
  rintro s rest now hinv hsrc hn (⟨isn, hs, hconn⟩ | ⟨offer, isn2, hs, hconn⟩ | ⟨chunk, hs, hconn, hphase, hlow, hhigh⟩ |
    ⟨offer, hs, hconn, hphase⟩ | ⟨hs, hconn, hphase⟩)
  · rw [step_iniConnect hs]
    obtain ⟨t, ht⟩ := opConnect_completes (s := { s with script := rest }) isn hconn hn hsrc
    exact ⟨t, ht, (opConnect_frame ht).lastNow⟩
  · obtain ⟨rx, hsound, hrun⟩ := runOp_iniHsStep now offer isn2 { s with script := rest }
    rw [step_op hs, hrun]
    obtain ⟨t, ht⟩ := hsStep_completes (s := { s with script := rest, rxOp := .hsStep now isn2 }) isn2 (rx.map Handlers.hs)
      hconn hn (BitVec.le_trans (hinv.handshake hconn).started hn)
    exact ⟨t, ht, (hsStep_frame hsound ht).lastNow⟩
  · rw [step_sndFill hs]
    obtain ⟨t, ht⟩ := opFill_completes (s := { s with script := rest }) hconn hphase hn hsrc hlow hhigh
    exact ⟨t, ht, (opFill_frame ht).lastNow⟩
  · obtain ⟨rx, hsound, hrun⟩ := runOp_sndRecv now offer { s with script := rest }
    rw [step_op hs, hrun]
    obtain ⟨t, ht⟩ := sndRecv_completes (s := { s with script := rest, rxOp := .sndRecv now }) hsound hconn hphase hn
      fun e he => BitVec.le_trans ((hinv.transfer hconn).entries e he).sentBefore hn
    exact ⟨t, ht, (sndRecv_frame hsound ht).lastNow⟩
  · rw [step_sndTchk hs]
    obtain ⟨t, ht⟩ := opTchk_completes (s := { s with script := rest }) hconn hphase hn
      fun hrun => BitVec.le_trans ((hinv.transfer hconn).timerSince hrun) hn
    exact ⟨t, ht, (opTchk_frame ht).lastNow⟩

/-- Settles O58: the frame of each operation, and that of the environment's actions. -/
theorem unitsShareNothing : Obligations.UnitsShareNothing := by
  unfold Obligations.UnitsShareNothing
  intro s t h
  refine ⟨(step_par_clock h).1, fun o rest hs ho => (step_op_frame hs h).ini ho,
    fun o rest hs ho => (step_op_frame hs h).rsp ho, fun e rest hs => ?_⟩
  rw [step_env hs] at h
  cases h
  obtain ⟨hini, hrsp, hout, -⟩ := runEnv_frame e { s with script := rest }
  exact ⟨hini, hrsp, hout⟩

/-- Settles O60: a timed operation that answers a next state had `lastNow ≤ now`. -/
theorem timeNeverRunsBackwards : Obligations.TimeNeverRunsBackwards := by
  unfold Obligations.TimeNeverRunsBackwards
  refine ⟨fun s t h => (step_par_clock h).2, ?_⟩
  intro s t rest now hlt hs h
  suffices hn : s.lastNow ≤ now from BitVec.not_lt.mpr hn hlt
  obtain ⟨isn, hs⟩ | ⟨offer, isn2, hs⟩ | ⟨chunk, hs⟩ | ⟨offer, hs⟩ | hs := hs
  · obtain ⟨-, hn, -⟩ := opConnect_next ((step_iniConnect hs).symm.trans h)
    exact hn
  · obtain ⟨rx, hstep⟩ := step_iniHsStep hs
    obtain ⟨-, hn, -⟩ := hsStep_next (hstep.symm.trans h)
    exact hn
  · obtain ⟨-, -, hn, -⟩ := opFill_next ((step_sndFill hs).symm.trans h)
    exact hn
  · obtain ⟨rx, hstep⟩ := step_sndRecv hs
    obtain ⟨-, -, hn, -⟩ := sndRecv_next (hstep.symm.trans h)
    exact hn
  · obtain ⟨-, -, hn, -⟩ := opTchk_next ((step_sndTchk hs).symm.trans h)
    exact hn

/-- Settles O7: the script does not enter into what is offered. -/
theorem stepRunsTheDecodedPacket : Obligations.StepRunsTheDecodedPacket := by
  unfold Obligations.StepRunsTheDecodedPacket
  intro s o rest d i hs ho hd
  exact step_decoded hs ho hd

/-- Settles O8: RSP.RX is offered the datagram of the word, which parses to the word's packet. -/
theorem fetchedTableWordRunsNext : Obligations.FetchedTableWordRunsNext := by
  unfold Obligations.FetchedTableWordRunsNext
  intro s nbits w i hw
  exact step_decoded (s := s.withFetchWord nbits w) (o := fetchOp s.par) (rest := s.script) rfl rfl (decodeTableWord_eq_some.mp hw)

/-- Settles O49: the outputs are emptied and the codec's result is written to them. -/
theorem codecOperationsChangeNoUnit : Obligations.CodecOperationsChangeNoUnit := by
  unfold Obligations.CodecOperationsChangeNoUnit
  refine fun s rest h d => ⟨fun hs => step_hcEncode hs, fun hs => ?_, fun hs => ?_⟩
  · rw [step_hcDecode hs]
    exact opHcDecode_codec d { s with script := rest }
  · rw [step_hcParse hs]
    exact opHcParse_codec d { s with script := rest }

end Sys2Proof.Machine

/-! # What a step can do to each unit, and the invariants of both (spec/10_state.md R22 to R31, R40 to R43) -/

namespace Sys2Proof.Machine

/-! ## Everything a step can do to the registers of one unit -/

/-- What SND.RECV does to the Initiator unit once the phase has advanced (R227 to R229, R311). -/
inductive RecvMove (i : Initiator) (now : Time) : Initiator → Prop
  | keep : RecvMove i now i
  | latch (pct : Byte) : RecvMove i now (i.latchDrop pct)
  | ack (ack : Seq) : 0 < ack → RecvMove i now (i.processAck ack now)

/-- What a step that ends with the clock at `now` does to the Initiator unit. -/
inductive IniMove (par : Params) (i : Initiator) (now : Time) : Initiator → Prop
  | keep : IniMove par i now i
  | reset : IniMove par i now (Initiator.reset par)
  | retarget (target : Seq) : i.conn = .closed → IniMove par i now { i with target := target }
  | connect (isn : Seq) : i.conn = .closed → IniMove par i now (i.connect par now isn)
  | retry (isn2 : Seq) : i.conn = .synSent → i.attempts.toNat < 5 →
      IniMove par i now { tcBackoff i with attempts := i.attempts + 1, isn := isn2, synTime := now }
  | fail (rto : Nat) : i.conn = .synSent → IniMove par i now { i with conn := .closed, hsFailed := true, rto := rto }
  | establish (serverSeq : Seq) : i.conn = .synSent → IniMove par i now (i.establish serverSeq)
  | finish : i.conn = .established → IniMove par i now { i with conn := .closed, xferDone := true }
  | send (payload : List Byte) : i.conn = .established → i.nextSeq < i.target → 1 ≤ payload.length → payload.length ≤ 80 →
      i.bytesInFlight.toNat + payload.length ≤ 400 → IniMove par i now (i.sendNew now payload)
  | turn (phase : Phase) : i.conn = .established → IniMove par i now { i with phase := phase }
  | recv (j : Initiator) : i.conn = .established → RecvMove { i with phase := .tchk } now j → IniMove par i now j
  | timeout : i.conn = .established → i.timerRunning = true → IniMove par i now { i.retransmitAll now with phase := .fill }

/-- What a step does to the Responder unit. -/
inductive RspMove (par : Params) (r : Responder) : Responder → Prop
  | count (r' : Responder) : r'.peers = r.peers → r'.dropPct = r.dropPct → RspMove par r r'
  | reset : RspMove par r Responder.reset
  | configure (pct : Byte) : pct.toNat ≤ 100 → RspMove par r { r with dropPct := pct }
  | put (p : Peer) : (r.find p.addr = none → r.full par = false) → RspMove par r (r.put p)
  | free (addr : Addr) : RspMove par r (r.free addr)

theorem RspMove.keep (par : Params) (r : Responder) : RspMove par r r := .count r rfl rfl

/-- A write of the record of an address that has one. -/
theorem RspMove.update {par : Params} {r : Responder} {addr : Addr} {p q : Peer} (hfind : r.find addr = some q)
    (haddr : p.addr = q.addr) : RspMove par r (r.put p) :=
  .put p fun hnone => by
    rw [haddr, Responder.find_addr hfind, hfind] at hnone
    cases hnone

/-! ### The arms of the receiving operations -/

theorem hsSynAck_ini (sequence ack : Seq) (s : State) :
    (hsSynAck sequence ack s).ini = s.ini ∨ ∃ n, (hsSynAck sequence ack s).ini = s.ini.establish n := by
  unfold hsSynAck
  split
  · exact .inr ⟨sequence, rfl⟩
  · exact .inl rfl

theorem sndConfig_move (p : Pkt) (now : Time) (s : State) : RecvMove s.ini now (sndConfig p s).ini := by
  unfold sndConfig
  split
  · split
    · exact .latch _
    · exact .keep
  · exact .keep

theorem sndAck_move {ack : Seq} {now : Time} {s t : State} (h : sndAck ack now s = .next t) : RecvMove s.ini now t.ini := by
  unfold sndAck sndAckPositive at h
  split at h
  · split at h
    · cases h
      rw [emitSamples_eq]
      exact .ack ack ‹_›
    · cases h
  · cases h
    exact .keep

theorem rspSyn_move (addr : Addr) (lseq clientSeq : Seq) (s : State) :
    RspMove s.par s.rsp (rspSyn addr lseq clientSeq s).rsp := by
  unfold rspSyn
  split
  · exact .count _ rfl rfl
  · rename_i hroom
    refine .put _ fun hnone => ?_
    simpa [hnone] using hroom

theorem rspAck_move (addr : Addr) (s : State) : RspMove s.par s.rsp (rspAck addr s).rsp := by
  unfold rspAck
  split
  · exact .count _ rfl rfl
  · rename_i r hfind
    split
    · exact .update hfind rfl
    · exact .keep _ _

theorem rspFin_move (addr : Addr) (senderSeq : Seq) (s : State) : RspMove s.par s.rsp (rspFin addr senderSeq s).rsp := by
  unfold rspFin
  split
  · exact .count _ rfl rfl
  · exact .free addr

theorem rspData_move {addr : Addr} {sequence : Seq} {payload ts : List Byte} {loss : Fin 100} {s t : State}
    (h : rspData addr sequence payload loss ts s = .next t) : RspMove s.par s.rsp t.rsp := by
  obtain rfl | rfl | ⟨r, hfind, rfl⟩ := rspData_next h
  · exact .count _ rfl rfl
  · exact .count _ rfl rfl
  · unfold acceptData
    split
    · exact .update hfind rfl
    · exact .count _ rfl rfl

/-! ### Handlers -/

/-- In each receiving operation the handler makes one of the moves of its unit. -/
structure Handlers.Moves (h : Handlers) : Prop where
  hs : ∀ s, (h.hs s).ini = s.ini ∨ ∃ n, (h.hs s).ini = s.ini.establish n
  snd : ∀ {now s t}, h.snd now s = .next t → RecvMove s.ini now t.ini
  rsp : ∀ {addr lseq loss ts s t}, h.rsp addr lseq loss ts s = .next t → RspMove s.par s.rsp t.rsp

theorem ignored_moves : ignored.Moves where
  hs _ := .inl rfl
  snd h := by cases h; exact .keep
  rsp h := by cases h; exact .keep _ _

theorem malformed_moves : malformed.Moves where
  hs _ := .inl rfl
  snd h := by cases h; exact .keep
  rsp h := by cases h; exact .count _ rfl rfl

theorem exec_moves (i : Instr) : ∃ h : Handlers, h.Moves ∧ ∀ s, exec i s = receive (some h) s := by
  cases i with
  | syn p =>
    refine ⟨_, ?_, fun _ => rfl⟩
    exact { ignored_moves with rsp := fun h => by cases h; exact rspSyn_move _ _ _ _ }
  | synAck p =>
    refine ⟨_, ?_, fun _ => rfl⟩
    exact { ignored_moves with hs := hsSynAck_ini p.sequence p.ack }
  | data p =>
    refine ⟨_, ?_, fun _ => rfl⟩
    exact { ignored_moves with rsp := rspData_move }
  | ack p =>
    refine ⟨_, ?_, fun _ => rfl⟩
    exact { ignored_moves with snd := sndAck_move, rsp := fun h => by cases h; exact rspAck_move _ _ }
  | fin p =>
    refine ⟨_, ?_, fun _ => rfl⟩
    exact { ignored_moves with rsp := fun h => by cases h; exact rspFin_move _ _ _ }
  | config p =>
    refine ⟨_, ?_, fun _ => rfl⟩
    exact { ignored_moves with snd := fun h => by cases h; exact sndConfig_move _ _ _ }
  | type0 | type7 | type8 | type9 | type10 | type11 | type12 | type13 | type14 | type15 =>
    exact ⟨ignored, ignored_moves, fun _ => rfl⟩

/-- A receiving operation is one shared receive, whose handler, if there is one, has any property that the handlers of all packets
and of malformed datagrams have. -/
theorem runOp_receive_of {P : Handlers → Prop} (hmalformed : P malformed)
    (hexec : ∀ i, ∃ h, P h ∧ ∀ s, exec i s = receive (some h) s) {o : Operation} {s : State}
    (hp : ∀ t, runPlain o t = receive none t) :
    ∃ rx : Option Handlers, (∀ h ∈ rx, P h) ∧ runOp o s = receive rx (latch o s) := by
  unfold runOp
  split
  · exact ⟨none, nofun, hp _⟩
  · split
    · rename_i i _
      obtain ⟨h, hh, heq⟩ := hexec i
      exact ⟨some h, fun _ he => Option.some.inj he ▸ hh, heq _⟩
    · exact ⟨some malformed, fun _ he => Option.some.inj he ▸ hmalformed, rfl⟩

/-! ### The operations -/

theorem hsStep_move {s t : State} {now : Time} {isn2 : Seq} {rx : Option Handlers} (hrx : ∀ h ∈ rx, h.Moves)
    (h : hsStep now isn2 (rx.map Handlers.hs) s = .next t) : IniMove s.par s.ini now t.ini := by
  obtain ⟨hconn, -, -, ⟨-, hlow, rfl⟩ | ⟨-, -, rfl⟩ | ⟨-, -, rfl⟩ | ⟨-, f, hf, rfl⟩⟩ := hsStep_next h
  · exact .retry isn2 hconn hlow
  · exact .fail _ hconn
  · exact .keep
  · obtain ⟨hd, hmem, rfl⟩ := Option.map_eq_some_iff.mp hf
    obtain hini | ⟨n, hini⟩ := (hrx hd hmem).hs (s.begin.touch now).popIni
    · rw [hini]; exact .keep
    · rw [hini]; exact .establish n hconn

theorem opFill_move {s t : State} {now : Time} {chunk : Nat} (h : opFill now chunk s = .next t) :
    IniMove s.par s.ini now t.ini := by
  obtain ⟨hconn, -, -, ⟨-, rfl⟩ | ⟨-, hnext, hroom, hsend⟩ | ⟨-, -, rfl⟩⟩ := opFill_next h
  · exact .finish hconn
  · obtain ⟨hlow, hhigh, -, rfl⟩ := fillSend_next hsend
    obtain ⟨hsize1, hsize80, hfits⟩ := chunkSize_bounds hlow hhigh hroom
    exact .send _ hconn hnext (by simpa using hsize1) (by simpa using hsize80) (by simpa using hfits)
  · exact .turn .recv hconn

theorem sndRecv_move {s t : State} {now : Time} {rx : Option Handlers} (hrx : ∀ h ∈ rx, h.Moves)
    (h : sndRecv now (rx.map Handlers.snd) s = .next t) : IniMove s.par s.ini now t.ini := by
  obtain ⟨hconn, -, -, ⟨-, rfl⟩ | ⟨f, hf, hnext⟩⟩ := sndRecv_next h
  · exact .turn .tchk hconn
  · obtain ⟨hd, hmem, rfl⟩ := Option.map_eq_some_iff.mp hf
    exact .recv _ hconn ((hrx hd hmem).snd hnext)

theorem opTchk_move {s t : State} {now : Time} (h : opTchk now s = .next t) : IniMove s.par s.ini now t.ini := by
  obtain ⟨hconn, -, -, ⟨hrun, -, -, rfl⟩ | rfl⟩ := opTchk_next h
  · rw [emitRaw_eq]
    exact .timeout hconn hrun
  · exact .turn .fill hconn

/-- Everything INI.CFG_WRITE can do when it answers a next state (R353). -/
theorem opIniCfgWrite_next {s t : State} {target : Seq} (h : opIniCfgWrite target s = .next t) :
    s.ini.conn = .closed ∧ t = s.begin.setIni { s.ini with target := target } := by
  unfold opIniCfgWrite at h
  split at h
  · cases h; exact ⟨‹_›, rfl⟩
  · cases h

/-- Everything RSP.CFG_WRITE can do when it answers a next state (R270). -/
theorem opRspCfgWrite_next {s t : State} {pct : Byte} (h : opRspCfgWrite pct s = .next t) :
    pct.toNat ≤ 100 ∧ t = s.begin.setRsp { s.rsp with dropPct := pct } := by
  unfold opRspCfgWrite at h
  split at h
  · cases h; exact ⟨‹_›, rfl⟩
  · cases h

theorem runOp_iniHsStep_lastNow {s t : State} {now : Time} {offer : Bool} {isn2 : Seq}
    (h : runOp (.iniHsStep now offer isn2) s = .next t) : t.lastNow = now := by
  obtain ⟨rx, hsound, hrun⟩ := runOp_iniHsStep now offer isn2 s
  exact (hsStep_frame hsound (hrun.symm.trans h)).lastNow

theorem runOp_sndRecv_lastNow {s t : State} {now : Time} {offer : Bool} (h : runOp (.sndRecv now offer) s = .next t) :
    t.lastNow = now := by
  obtain ⟨rx, hsound, hrun⟩ := runOp_sndRecv now offer s
  exact (sndRecv_frame hsound (hrun.symm.trans h)).lastNow

theorem runOp_iniMove {o : Operation} {s t : State} (h : runOp o s = .next t) : IniMove s.par s.ini t.lastNow t.ini := by
  cases o with
  | iniReset => cases h; exact .reset
  | iniCfgWrite target =>
    obtain ⟨hconn, rfl⟩ := opIniCfgWrite_next h
    exact .retarget target hconn
  | iniConnect now isn =>
    obtain ⟨hconn, -, -, rfl⟩ := opConnect_next h
    exact .connect isn hconn
  | iniHsStep now offer isn2 =>
    obtain ⟨rx, hmoves, hrun⟩ := runOp_receive_of malformed_moves exec_moves (o := .iniHsStep now offer isn2) (s := s) fun _ => rfl
    rw [runOp_iniHsStep_lastNow h]
    have hmove := hsStep_move hmoves (hrun.symm.trans h)
    exact hmove
  | sndFill now chunk =>
    rw [(opFill_frame h).lastNow]
    exact opFill_move h
  | sndRecv now offer =>
    obtain ⟨rx, hmoves, hrun⟩ := runOp_receive_of malformed_moves exec_moves (o := .sndRecv now offer) (s := s) fun _ => rfl
    rw [runOp_sndRecv_lastNow h]
    have hmove := sndRecv_move hmoves (hrun.symm.trans h)
    exact hmove
  | sndTchk now =>
    rw [(opTchk_frame h).lastNow]
    exact opTchk_move h
  | rspReset | rspCfgWrite | rspRx | hcEncode | hcDecode | hcParse =>
    rw [(runOp_frame h).ini rfl]
    exact .keep

theorem runOp_rspMove {o : Operation} {s t : State} (h : runOp o s = .next t) : RspMove s.par s.rsp t.rsp := by
  cases o with
  | rspReset => cases h; exact .reset
  | rspCfgWrite pct =>
    obtain ⟨hpct, rfl⟩ := opRspCfgWrite_next h
    exact .configure pct hpct
  | rspRx lseq loss ts =>
    obtain ⟨rx, hmoves, hrun⟩ := runOp_receive_of malformed_moves exec_moves (o := .rspRx lseq loss ts) (s := s) fun _ => rfl
    obtain ⟨f, hf, hnext⟩ := rspRx_next (hrun.symm.trans h)
    obtain ⟨hd, hmem, rfl⟩ := Option.map_eq_some_iff.mp hf
    have hmove := (hmoves hd hmem).rsp hnext
    exact hmove
  | iniReset | iniCfgWrite | iniConnect | iniHsStep | sndFill | sndRecv | sndTchk | hcEncode | hcDecode | hcParse =>
    rw [(runOp_frame h).rsp rfl]
    exact .keep _ _

/-- A step that answers a next state runs an operation, or leaves both units as they are (R33, R75). -/
theorem step_cases {s t : State} (h : step s = .next t) :
    (∃ o rest, runOp o { s with script := rest } = .next t) ∨ t.ini = s.ini ∧ t.rsp = s.rsp := by
  cases hs : s.script with
  | nil =>
    unfold step at h
    rw [hs] at h
    cases h
    exact .inr ⟨rfl, rfl⟩
  | cons a rest =>
    cases a with
    | op o => exact .inl ⟨o, rest, (step_op hs).symm.trans h⟩
    | env e =>
      rw [step_env hs] at h
      cases h
      obtain ⟨hini, hrsp, -⟩ := runEnv_frame e { s with script := rest }
      exact .inr ⟨hini, hrsp⟩

theorem step_iniMove {s t : State} (h : step s = .next t) : IniMove s.par s.ini t.lastNow t.ini := by
  obtain ⟨o, rest, hrun⟩ | ⟨hini, -⟩ := step_cases h
  · have hmove := runOp_iniMove hrun
    exact hmove
  · rw [hini]; exact .keep

theorem step_rspMove {s t : State} (h : step s = .next t) : RspMove s.par s.rsp t.rsp := by
  obtain ⟨o, rest, hrun⟩ | ⟨-, hrsp⟩ := step_cases h
  · have hmove := runOp_rspMove hrun
    exact hmove
  · rw [hrsp]; exact .keep _ _

/-! ## The Responder unit (R29, R30, R43) -/

/-- A table with room holds fewer records than its bound (R269). -/
theorem Responder.length_lt_of_full {r : Responder} {par : Params} {m : Nat} (h : r.full par = false) (hm : par.maxPeers = some m)
    (hpos : 1 ≤ m) : r.peers.length < m := by
  cases hp : r.peers with
  | nil => exact hpos
  | cons p ps => simpa [Responder.full, hm, hp] using h

/-- A write into a table that has room, or that holds the address, keeps the table within its capacity. -/
theorem Responder.length_put_le {r : Responder} {par : Params} {p : Peer} {m : Nat} (hasc : ascending Peer.key r.peers = true)
    (hroom : r.find p.addr = none → r.full par = false) (hm : par.maxPeers = some m) (hpos : 1 ≤ m) (hcap : r.peers.length ≤ m) :
    (r.put p).peers.length ≤ m := by
  by_cases hfind : r.find p.addr = none
  · have hlt := length_lt_of_full (hroom hfind) hm hpos
    have hle : (r.put p).peers.length ≤ r.peers.length + 1 := length_putBy_le p r.peers
    omega
  · have hlen : (r.put p).peers.length = r.peers.length := length_putBy_of_find hasc hfind
    omega

theorem RspMove.keeps_inv {s t : State} (hmove : RspMove s.par s.rsp t.rsp) (hpar : t.par = s.par) (h : RspInv s) : RspInv t := by
  suffices hinv : ∀ r, RspMove s.par s.rsp r → RspInv { s with rsp := r } by
    obtain ⟨hone, hcap, hpct⟩ := hinv _ hmove
    exact ⟨hone, by rw [hpar]; exact hcap, hpct⟩
  intro r hr
  cases hr with
  | count r hpeers hpct => exact ⟨by rw [hpeers]; exact h.oneEach, by rw [hpeers]; exact h.capacity, by rw [hpct]; exact h.percent⟩
  | reset => exact ⟨rfl, fun _ _ _ => Nat.zero_le _, Nat.zero_le _⟩
  | configure pct hpct => exact ⟨h.oneEach, h.capacity, hpct⟩
  | put p hroom =>
    exact ⟨ascending_putBy p h.oneEach, fun m hm hpos => Responder.length_put_le h.oneEach hroom hm hpos (h.capacity m hm hpos),
      h.percent⟩
  | free addr =>
    exact ⟨ascending_eraseBy addr h.oneEach,
      fun m hm hpos => le_trans (List.length_filter_le _ _) (h.capacity m hm hpos), h.percent⟩

/-! ## The source payload memory as the environment changes it (R70) -/

theorem Memory.mem_write {m : Memory} {a : Nat} {b : Byte} {c : Host.Cell} (h : c ∈ m.write a b) : c.1 = a ∨ c ∈ m := by
  unfold Memory.write at h
  split at h
  · exact .inr (List.mem_filter.mp h).1
  · obtain rfl | hmem := mem_putBy h
    · exact .inl rfl
    · exact .inr hmem

theorem srcWf_iff (s : State) : s.srcWf = true ↔ s.src.wf = true ∧ ∀ c ∈ s.src, c.1 < s.srcLen := by
  simp [State.srcWf]

theorem srcWrite_inside {s : State} {addr : Nat} (b : Byte) (h : addr < s.srcLen) :
    srcWrite addr b s = { s with src := s.src.write addr b } := if_pos h

theorem srcWrite_outside {s : State} {addr : Nat} (b : Byte) (h : s.srcLen ≤ addr) : srcWrite addr b s = s :=
  if_neg (Nat.not_lt.mpr h)

theorem srcWrite_srcWf {s : State} (addr : Nat) (b : Byte) (h : s.srcWf = true) : (srcWrite addr b s).srcWf = true := by
  obtain hin | hout := Nat.lt_or_ge addr s.srcLen
  · rw [srcWf_iff] at h
    obtain ⟨hwf, hlen⟩ := h
    rw [srcWrite_inside b hin, srcWf_iff]
    refine ⟨Memory.wf_write hwf addr b, fun c hc => ?_⟩
    obtain haddr | hold := Memory.mem_write hc
    · exact haddr ▸ hin
    · exact hlen c hold
  · rwa [srcWrite_outside b hout]

theorem srcResize_srcWf {s : State} (len : Nat) (h : s.srcWf = true) : (srcResize len s).srcWf = true := by
  rw [srcWf_iff] at h ⊢
  exact ⟨Memory.wf_truncate h.1 len, fun c hc => of_decide_eq_true (List.mem_filter.mp hc).2⟩

/-! ## The channel (R75) -/

theorem deliverRsp_inFlight {s : State} {k : Nat} {d : Datagram} (h : s.toRsp[k]? = some d) :
    deliverRsp k s = { s with rspQueue := s.rspQueue ++ [(s.par.iniAddr, d)] } := by
  simp only [deliverRsp, h]

theorem deliverIni_inFlight {s : State} {k : Nat} {addr : Addr} {d : Datagram} (h : s.toIni[k]? = some (addr, d)) :
    deliverIni k s = if addr = s.par.iniAddr then { s with iniQueue := s.iniQueue ++ [d] } else s := by
  simp only [deliverIni, h]

/-! ## ACK processing in closed form (R161, R162, R227, R230, R231, R235) -/

/-! ### The samples (R161, R162) -/

/-- The last ten of a list, and more of the same, leave the last ten of the whole. -/
theorem rtake_rtake_append {α : Type} (n : Nat) (l m : List α) : (l.rtake n ++ m).rtake n = (l ++ m).rtake n := by
  simp only [List.rtake_eq_reverse_take_reverse, List.reverse_append, List.reverse_reverse, List.take_append, List.take_take]
  congr 3
  omega

theorem rtake_of_length_le {α : Type} {n : Nat} {l : List α} (h : l.length ≤ n) : l.rtake n = l := by
  simp [List.rtake, Nat.sub_eq_zero_of_le h]

theorem length_rtake {α : Type} (n : Nat) (l : List α) : (l.rtake n).length = min n l.length := by
  simp only [List.rtake, List.length_drop]
  omega

/-- TC.RECORD_SAMPLE keeps the last ten samples (R161). -/
theorem tcRecordSample_eq {i : Initiator} (rtt : Time) (h : i.samp.length ≤ 10) :
    tcRecordSample rtt i = { i with samp := (i.samp ++ [rtt]).rtake 10 } := by
  rw [List.rtake_concat_succ]
  unfold tcRecordSample
  split
  · rename_i hlt
    rw [rtake_of_length_le (Nat.le_of_lt_succ hlt)]
  · rename_i hge
    have hlen : i.samp.length = 10 := le_antisymm h (Nat.not_lt.mp hge)
    simp [List.rtake, hlen]

/-- Recording samples one by one keeps the last ten of all of them. -/
theorem recordAll_eq (l : List Time) {i : Initiator} (h : i.samp.length ≤ 10) :
    recordAll l i = { i with samp := (i.samp ++ l).rtake 10 } := by
  induction l generalizing i with
  | nil => simp [recordAll, rtake_of_length_le h]
  | cons x xs ih =>
    rw [recordAll, tcRecordSample_eq x h, ih (by simp [length_rtake])]
    simp only [rtake_rtake_append, List.append_assoc, List.singleton_append]

/-! ### Marks and released bytes (R227, R235) -/

theorem pendingBytes_filter (p : Pending → Bool) (l : List Pending) :
    pendingBytes l = pendingBytes (l.filter p) + pendingBytes (l.filter fun e => !p e) := by
  induction l with
  | nil => rfl
  | cons e es ih => by_cases he : p e = true <;> simp [pendingBytes, he, ih] <;> omega

theorem releaseBytes_eq (b : BitVec 9) (l : List Pending) : releaseBytes b l = b - BitVec.ofNat 9 (pendingBytes l) := by
  induction l generalizing b with
  | nil => simp [releaseBytes, pendingBytes]
  | cons e es ih =>
    have hsize : e.size.setWidth 9 = BitVec.ofNat 9 e.size.toNat := by
      apply BitVec.eq_of_toNat_eq
      simp
    rw [releaseBytes, ih, pendingBytes, BitVec.ofNat_add, hsize]
    abel

@[simp] theorem Pending.markAcked_seq (ack : Seq) (e : Pending) : (e.markAcked ack).seq = e.seq := by
  unfold Pending.markAcked; split <;> rfl

@[simp] theorem Pending.markAcked_key (ack : Seq) (e : Pending) : (e.markAcked ack).key = e.key := by
  simp [Pending.key]

theorem Pending.markAcked_acked {e : Pending} (ack : Seq) (h : e.acked = false) :
    (e.markAcked ack).acked = decide (e.seq < ack) := by
  by_cases hlt : e.seq < ack <;> simp [markAcked, ackable, h, hlt]

theorem Pending.markAcked_of_le {e : Pending} {ack : Seq} (h : ack ≤ e.seq) : e.markAcked ack = e := by
  have hlt : ¬e.seq < ack := BitVec.not_lt.mpr h
  simp [markAcked, ackable, hlt]

/-- The base after an ACK: `min(max(base, ack), nextSeq)` (R230). -/
def ackedBase (ack base next : Seq) : Seq := if ack ≤ base then base else if next ≤ ack then next else ack

/-- An ACK above the base moves it as it would move the number after it. -/
theorem ackedBase_succ {ack base next : Seq} (hack : base < ack) (hnext : base < next) :
    ackedBase ack (base + 1) next = ackedBase ack base next := by
  unfold ackedBase
  split_ifs <;> bv_omega

theorem ackedBase_of_le {ack base next : Seq} (h : ack ≤ base) : ackedBase ack base next = base := if_pos h

theorem base_le_ackedBase {ack base next : Seq} (h : base ≤ next) : base ≤ ackedBase ack base next := by
  unfold ackedBase
  split_ifs <;> bv_omega

theorem ackedBase_le_next {ack base next : Seq} (h : base ≤ next) : ackedBase ack base next ≤ next := by
  unfold ackedBase
  split_ifs <;> bv_omega

theorem ackedBase_self (ack base : Seq) : ackedBase ack base base = base := by
  unfold ackedBase
  split_ifs <;> bv_omega

/-! ### The base moves past the marked entries (R230) -/

/-- The entries hold one number each, from the base up to `nextSeq` (R42 (b)). -/
def Initiator.windowKeys (i : Initiator) : Prop :=
  i.pend.map Pending.key = List.range' i.base.toNat (i.nextSeq.toNat - i.base.toNat)

theorem TransferInv.windowKeys {t : Time} {i : Initiator} (h : TransferInv t i) : i.windowKeys := h.keys

theorem Initiator.windowKeys.mem {i : Initiator} (h : i.windowKeys) {e : Pending} (he : e ∈ i.pend) :
    i.base ≤ e.seq ∧ e.seq < i.nextSeq := by
  have hkey : e.key ∈ List.range' i.base.toNat (i.nextSeq.toNat - i.base.toNat) := h ▸ List.mem_map_of_mem he
  obtain ⟨hlow, hhigh⟩ := List.mem_range'_1.mp hkey
  unfold Pending.key at hlow hhigh
  exact ⟨by bv_omega, by bv_omega⟩

/-- A window that is not empty starts with the entry of the base, and the rest is the window from the next number. -/
theorem Initiator.windowKeys.cons {i : Initiator} {e : Pending} {es : List Pending} (h : i.windowKeys) (hp : i.pend = e :: es) :
    e.seq = i.base ∧ i.base < i.nextSeq ∧ (∀ x ∈ es, i.base < x.seq) ∧
      ({ i with pend := es, base := i.base + 1 } : Initiator).windowKeys := by
  unfold windowKeys at h ⊢
  obtain ⟨n, hn⟩ : ∃ n, i.nextSeq.toNat - i.base.toNat = n + 1 := by
    rw [hp] at h
    have hlen := congrArg List.length h
    simp at hlen
    exact ⟨_, hlen.symm⟩
  rw [hp, hn, List.range'_succ, List.map_cons, List.cons.injEq] at h
  obtain ⟨hhead, htail⟩ := h
  have hsucc : (i.base + 1).toNat = i.base.toNat + 1 := by bv_omega
  refine ⟨BitVec.eq_of_toNat_eq hhead, by bv_omega, fun x hx => ?_, ?_⟩
  · have hkey : x.key ∈ List.range' (i.base.toNat + 1) n := htail ▸ List.mem_map_of_mem hx
    obtain ⟨hlow, -⟩ := List.mem_range'_1.mp hkey
    exact hlow
  · change es.map Pending.key = List.range' (i.base + 1).toNat (i.nextSeq.toNat - (i.base + 1).toNat)
    rw [htail, hsucc]
    congr 1
    omega

theorem Initiator.windowKeys.nil {i : Initiator} (h : i.windowKeys) (hbase : i.base ≤ i.nextSeq) (hp : i.pend = []) :
    i.nextSeq = i.base := by
  unfold windowKeys at h
  rw [hp] at h
  have hlen := congrArg List.length h
  simp at hlen
  bv_omega

/-- The base stays where it is when an ACK reaches no entry. -/
theorem advanceBase_stays {ack : Seq} {i : Initiator} (n : Nat) (hmark : ∀ e ∈ i.pend, e.acked = decide (e.seq < ack))
    (hle : ∀ e ∈ i.pend, ack ≤ e.seq) (hbase : ackedBase ack i.base i.nextSeq = i.base) :
    advanceBase n i =
      { i with pend := i.pend.filter (fun e => ack ≤ e.seq), base := ackedBase ack i.base i.nextSeq } := by
  have hfilter : i.pend.filter (fun e => ack ≤ e.seq) = i.pend :=
    List.filter_eq_self.mpr fun e he => decide_eq_true (hle e he)
  have hfind : i.pend.find? (fun e => e.seq == i.base && e.acked) = none := by
    refine List.find?_eq_none.mpr fun e he => ?_
    have hnot : ¬e.seq < ack := BitVec.not_lt.mpr (hle e he)
    simp [hmark e he, hnot]
  rw [hfilter, hbase]
  cases n with
  | zero => rfl
  | succ n => simp only [advanceBase, hfind]

theorem eraseBy_head {e : Pending} {es : List Pending} (h : ∀ x ∈ es, e.seq < x.seq) :
    eraseBy Pending.key e.seq.toNat (e :: es) = es := by
  unfold eraseBy
  rw [List.filter_cons_of_neg (by simp [Pending.key]), List.filter_eq_self]
  intro x hx
  have hlt : e.seq.toNat < x.seq.toNat := h x hx
  simpa [Pending.key] using hlt.ne'

/-- The base moves by one when the entry that starts the window is marked. -/
theorem advanceBase_succ {n : Nat} {i : Initiator} {e : Pending} {es : List Pending} (hp : i.pend = e :: es) (hseq : e.seq = i.base)
    (hacked : e.acked = true) (habove : ∀ x ∈ es, i.base < x.seq) :
    advanceBase (n + 1) i = advanceBase n { i with pend := es, base := i.base + 1 } := by
  have hfind : i.pend.find? (fun e => e.seq == i.base && e.acked) = some e := by simp [hp, ← hseq, hacked]
  have herase : eraseBy Pending.key i.base.toNat i.pend = es := by
    rw [hp, ← hseq]
    exact eraseBy_head (hseq ▸ habove)
  simp only [advanceBase, hfind, herase]

/-- With the marks of an ACK on the window, the base moves to `min(max(base, ack), nextSeq)` and everything below it is evicted. -/
theorem advanceBase_eq {ack : Seq} {n : Nat} {i : Initiator} (hn : i.pend.length ≤ n) (hkeys : i.windowKeys)
    (hbase : i.base ≤ i.nextSeq) (hmark : ∀ e ∈ i.pend, e.acked = decide (e.seq < ack)) :
    advanceBase n i =
      { i with pend := i.pend.filter (fun e => ack ≤ e.seq), base := ackedBase ack i.base i.nextSeq } := by
  induction n generalizing i with
  | zero =>
    have hp := List.eq_nil_of_length_eq_zero (Nat.le_zero.mp hn)
    exact advanceBase_stays 0 hmark (by simp [hp]) (hkeys.nil hbase hp ▸ ackedBase_self ack i.base)
  | succ n ih =>
    cases hp : i.pend with
    | nil =>
      rw [← hp]
      exact advanceBase_stays _ hmark (by simp [hp]) (hkeys.nil hbase hp ▸ ackedBase_self ack i.base)
    | cons e es =>
      obtain ⟨hseq, hlt, habove, hrest⟩ := hkeys.cons hp
      obtain ⟨hmarke, hmarkes⟩ := List.forall_mem_cons.mp (hp ▸ hmark)
      rw [hseq] at hmarke
      have hlen : es.length ≤ n := Nat.le_of_succ_le_succ (by rwa [hp] at hn)
      by_cases hack : i.base < ack
      · have hfilter : (e :: es).filter (fun e => ack ≤ e.seq) = es.filter (fun e => ack ≤ e.seq) :=
          List.filter_cons_of_neg (by simpa [hseq] using hack)
        rw [advanceBase_succ hp hseq (by simpa [hack] using hmarke) habove,
          ih hlen hrest (by bv_omega) hmarkes]
        simp only [hfilter, ackedBase_succ hack hlt]
      · have hle : ack ≤ i.base := BitVec.not_lt.mp hack
        rw [← hp]
        exact advanceBase_stays _ hmark (fun x hx => BitVec.le_trans hle (hkeys.mem hx).1) (ackedBase_of_le hle)

/-! ### The Initiator unit after an ACK -/

/-- The pending entries below the `ack` field. -/
def Initiator.below (i : Initiator) (ack : Seq) : List Pending := i.pend.filter (fun e => e.seq < ack)

/-- The pending entries from the `ack` field on. -/
def Initiator.fromAck (i : Initiator) (ack : Seq) : List Pending := i.pend.filter (fun e => ack ≤ e.seq)

/-- The last ten samples, those of an ACK included. -/
def Initiator.sampAfter (i : Initiator) (ack : Seq) (now : Time) : List Time :=
  (i.samp ++ (i.below ack).map (fun e => now - e.sendTime)).rtake 10

/-- The timeout, recomputed when an ACK released something and there are ten samples (R162, R166). -/
def Initiator.rtoAfter (i : Initiator) (ack : Seq) (now : Time) : Nat :=
  if i.below ack ≠ [] ∧ (i.sampAfter ack now).length = 10 then 5 * ((sortAscending (i.sampAfter ack now)).getD 5 0).toNat
  else i.rto

/-- The Initiator unit after an ACK, register by register (R227, R230, R231). -/
def Initiator.afterAck (i : Initiator) (ack : Seq) (now : Time) : Initiator :=
  { i with
    samp := i.sampAfter ack now
    rto := i.rtoAfter ack now
    pend := i.fromAck ack
    base := ackedBase ack i.base i.nextSeq
    bytesInFlight := BitVec.ofNat 9 (pendingBytes (i.fromAck ack))
    timerRunning := if i.below ack = [] then i.timerRunning else !(i.fromAck ack).isEmpty
    timerStart := if i.below ack ≠ [] ∧ i.fromAck ack ≠ [] then now else i.timerStart }

/-- The entries that an ACK leaves carry no mark. -/
theorem filter_map_markAcked (l : List Pending) (ack : Seq) :
    (l.map (Pending.markAcked ack)).filter (fun e => ack ≤ e.seq) = l.filter (fun e => ack ≤ e.seq) := by
  rw [List.filter_map]
  have hcomp : (fun e : Pending => decide (ack ≤ e.seq)) ∘ Pending.markAcked ack = fun e => decide (ack ≤ e.seq) := by
    funext e
    simp
  rw [hcomp]
  refine (List.map_congr_left fun e he => ?_).trans (List.map_id _)
  exact Pending.markAcked_of_le (of_decide_eq_true (List.mem_filter.mp he).2)

/-- An ACK that releases nothing leaves every entry. -/
theorem Initiator.fromAck_of_below {i : Initiator} {ack : Seq} (hnone : i.below ack = []) : i.fromAck ack = i.pend :=
  List.filter_eq_self.mpr fun e he =>
    decide_eq_true (BitVec.not_lt.mp (by simpa using List.filter_eq_nil_iff.mp hnone e he))

section
variable {lastNow : Time} {i : Initiator} (h : TransferInv lastNow i)
include h

theorem TransferInv.newlyAcked_eq (ack : Seq) : i.newlyAcked ack = i.below ack :=
  List.filter_congr fun e he => by simp [Pending.ackable, (h.entries e he).fresh]

theorem TransferInv.ackSamples_eq (ack : Seq) (now : Time) :
    i.ackSamples ack now = (i.below ack).map (fun e => now - e.sendTime) := by
  rw [Initiator.ackSamples, h.newlyAcked_eq]

/-- What an ACK releases and what it leaves add up to the bytes in flight (R42 (d), R235). -/
theorem TransferInv.releaseBytes_below (ack : Seq) :
    releaseBytes i.bytesInFlight (i.below ack) = BitVec.ofNat 9 (pendingBytes (i.fromAck ack)) := by
  have hflight : i.bytesInFlight = BitVec.ofNat 9 (pendingBytes i.pend) :=
    BitVec.eq_of_toNat_eq (by have hlt := i.bytesInFlight.isLt; simp only [← h.bytes, BitVec.toNat_ofNat]; omega)
  have hrest : i.pend.filter (fun e => !decide (e.seq < ack)) = i.fromAck ack :=
    List.filter_congr fun e _ => by rw [← decide_not]; exact decide_eq_decide.mpr BitVec.not_lt
  rw [releaseBytes_eq, hflight, pendingBytes_filter (fun e => decide (e.seq < ack)), hrest, BitVec.ofNat_add]
  exact add_sub_cancel_left _ _

/-- The marks, the samples and the released bytes of an ACK (R227). -/
theorem TransferInv.markAck_eq (hsamp : i.samp.length ≤ 10) (ack : Seq) (now : Time) :
    i.markAck ack now = { i with
      samp := i.sampAfter ack now
      rto := i.rtoAfter ack now
      pend := i.pend.map (Pending.markAcked ack)
      bytesInFlight := BitVec.ofNat 9 (pendingBytes (i.fromAck ack)) } := by
  unfold Initiator.markAck
  simp only [h.newlyAcked_eq, h.ackSamples_eq, recordAll_eq _ hsamp, h.releaseBytes_below, List.isEmpty_iff]
  by_cases hnew : i.below ack = []
  · simp [hnew, Initiator.rtoAfter, Initiator.sampAfter]
  · rw [if_neg hnew]
    unfold tcRecompute Initiator.rtoAfter
    change (if (i.sampAfter ack now).length = 10 then _ else _) = _
    by_cases hten : (i.sampAfter ack now).length = 10
    · rw [if_pos hten, if_pos ⟨hnew, hten⟩]
      rfl
    · rw [if_neg hten, if_neg fun hboth => hten hboth.2]
      rfl

/-- An ACK at or below the base releases nothing (R236). -/
theorem TransferInv.below_stale {ack : Seq} (hle : ack ≤ i.base) : i.below ack = [] :=
  List.filter_eq_nil_iff.mpr fun e he => by simpa using BitVec.le_trans hle (h.windowKeys.mem he).1

/-- An ACK releases something exactly when it moves the base. -/
theorem TransferInv.below_ne_nil_iff (ack : Seq) : i.below ack ≠ [] ↔ i.base < ackedBase ack i.base i.nextSeq := by
  cases hp : i.pend with
  | nil =>
    have hnext := h.windowKeys.nil h.baseLow hp
    simp [Initiator.below, hp, hnext, ackedBase_self]
  | cons e es =>
    obtain ⟨hseq, hlt, -⟩ := h.windowKeys.cons hp
    by_cases hack : i.base < ack
    · have hmem : e ∈ i.below ack := List.mem_filter.mpr ⟨by simp [hp], by simpa [hseq] using hack⟩
      have hmoves : i.base < ackedBase ack i.base i.nextSeq := by unfold ackedBase; split_ifs <;> bv_omega
      exact ⟨fun _ => hmoves, fun _ => List.ne_nil_of_mem hmem⟩
    · have hle : ack ≤ i.base := BitVec.not_lt.mp hack
      simp [h.below_stale hle, ackedBase_of_le hle]

/-- The marked window, once the base has moved (R227, R230). -/
theorem TransferInv.advanceBase_markAck (hsamp : i.samp.length ≤ 10) (ack : Seq) (now : Time) :
    advanceBase i.pend.length (i.markAck ack now) = { i with
      samp := i.sampAfter ack now
      rto := i.rtoAfter ack now
      pend := i.fromAck ack
      base := ackedBase ack i.base i.nextSeq
      bytesInFlight := BitVec.ofNat 9 (pendingBytes (i.fromAck ack)) } := by
  rw [h.markAck_eq hsamp, advanceBase_eq (ack := ack)]
  case hn => simp
  case hkeys =>
    unfold Initiator.windowKeys
    rw [List.map_map, ← h.keys]
    exact List.map_congr_left fun e _ => Pending.markAcked_key ack e
  case hbase => exact h.baseLow
  case hmark =>
    intro e he
    obtain ⟨x, hx, rfl⟩ := List.mem_map.mp he
    rw [Pending.markAcked_acked ack (h.entries x hx).fresh, Pending.markAcked_seq]
  simp only [filter_map_markAcked]
  rfl

/-- ACK processing in closed form (R227, R230, R231). -/
theorem TransferInv.processAck_eq (hsamp : i.samp.length ≤ 10) (ack : Seq) (now : Time) :
    i.processAck ack now = i.afterAck ack now := by
  rw [Initiator.processAck, h.advanceBase_markAck hsamp]
  unfold Initiator.timerAfterAck Initiator.afterAck
  by_cases hnew : i.below ack = []
  · have hstay := mt (h.below_ne_nil_iff ack).mpr (not_not.mpr hnew)
    simp only [hnew, hstay, if_false, if_true, ne_eq, not_true, false_and]
  · have hmoves := (h.below_ne_nil_iff ack).mp hnew
    have hrunning : i.timerRunning = true := by
      obtain ⟨e, he⟩ := List.exists_mem_of_ne_nil _ hnew
      exact h.timer.mpr (List.ne_nil_of_mem (List.mem_filter.mp he).1)
    by_cases hleft : i.fromAck ack = []
    · simp [hnew, hmoves, hleft]
    · simp [hnew, hmoves, hleft, hrunning]

/-- An ACK at or below the base changes no register (R236). -/
theorem TransferInv.afterAck_stale {ack : Seq} {now : Time} (hsamp : i.samp.length ≤ 10) (hle : ack ≤ i.base) :
    i.afterAck ack now = i := by
  have hnone := h.below_stale hle
  have hflight : BitVec.ofNat 9 (pendingBytes i.pend) = i.bytesInFlight := by
    have hrelease := h.releaseBytes_below ack
    rw [hnone, Initiator.fromAck_of_below hnone] at hrelease
    exact hrelease.symm
  simp [Initiator.afterAck, Initiator.sampAfter, Initiator.rtoAfter, hnone, Initiator.fromAck_of_below hnone, hflight,
    ackedBase_of_le hle, rtake_of_length_le hsamp]

end

/-- An invariant of the window, the buffer and the timer does not depend on the phase. -/
theorem TransferInv.setPhase {lastNow : Time} {i : Initiator} (h : TransferInv lastNow i) (phase : Phase) :
    TransferInv lastNow { i with phase := phase } := { h with }

/-- ACK processing on a state that meets the invariant (R227). -/
theorem sndAckPositive_eq {lastNow now : Time} {s : State} (h : TransferInv lastNow s.ini) (hsamp : s.ini.samp.length ≤ 10)
    (hnow : lastNow ≤ now) (ack : Seq) :
    sndAckPositive ack now s = .next { s with
      ini := s.ini.afterAck ack now
      out := { s.out with
        status := some (if s.ini.below ack = [] then .ackStale else .acked)
        stats := s.out.stats ++ ((s.ini.below ack).map (fun e => now - e.sendTime)).map StatEvent.rtt } } := by
  have hsent : (s.ini.below ack).all (fun e => decide (e.sendTime ≤ now)) = true :=
    List.all_eq_true.mpr fun e he =>
      decide_eq_true (BitVec.le_trans (h.entries e (List.mem_filter.mp he).1).sentBefore hnow)
  rw [sndAckPositive, emitSamples_eq, h.newlyAcked_eq, h.ackSamples_eq, h.processAck_eq hsamp, if_pos hsent]
  simp only [List.isEmpty_iff]
  rfl

/-- SND.RECV consuming an ACK, on a state that meets the invariant (R226, R227). -/
theorem exec_ack_open {p : Pkt} {s : State} {now : Time} (hopen : SndOpen s now) (hinv : IniInv s) (hack : 0 < p.ack) :
    exec (.ack p) s = .next { s with
      lastNow := now
      ini := { s.ini with phase := .tchk }.afterAck p.ack now
      out := { Output.empty with
        status := some (if s.ini.below p.ack = [] then .ackStale else .acked)
        stats := ((s.ini.below p.ack).map (fun e => now - e.sendTime)).map StatEvent.rtt }
      iniQueue := s.iniQueue.tail } := by
  have hrun : exec (.ack p) s =
      sndAckPositive p.ack now ((s.begin.touch now).setIni { s.ini with phase := .tchk }).popIni := by
    change receive _ s = _
    rw [receive_sndRecv _ hopen.port, Option.map_some, sndRecv_open hopen]
    exact if_pos hack
  rw [hrun, sndAckPositive_eq (lastNow := s.lastNow)]
  case h => exact (hinv.transfer hopen.enabled).setPhase .tchk
  case hsamp => exact hinv.samples
  case hnow => exact hopen.clock
  rfl

/-! ## The invariant of the Initiator unit (R22, R23, R42, R167) -/

/-! ### The clock moves on -/

theorem PendingInv.later {t now : Time} {e : Pending} (h : PendingInv t e) (hnow : t ≤ now) : PendingInv now e :=
  { h with sentBefore := BitVec.le_trans h.sentBefore hnow }

theorem TransferInv.later {t now : Time} {i : Initiator} (h : TransferInv t i) (hnow : t ≤ now) : TransferInv now i :=
  { h with
    entries := fun e he => (h.entries e he).later hnow
    timerSince := fun hrun => BitVec.le_trans (h.timerSince hrun) hnow }

theorem HandshakeInv.later {ticksPerMs : Nat} {t now : Time} {i : Initiator} (h : HandshakeInv ticksPerMs t i) (hnow : t ≤ now) :
    HandshakeInv ticksPerMs now i := { h with started := BitVec.le_trans h.started hnow }

theorem IniInv.later {s : State} {now : Time} (h : IniInv s) (hnow : s.lastNow ≤ now) : IniInv { s with lastNow := now } where
  samples := h.samples
  handshake hconn := (h.handshake hconn).later hnow
  transfer hconn := (h.transfer hconn).later hnow
  timeout := h.timeout

/-! ### The timeout (R167) -/

theorem RtoInv.of_ten {ticksPerMs : Nat} {i : Initiator} (hten : i.samp.length = 10)
    (hrto : i.rto = 5 * ((sortAscending i.samp).getD 5 0).toNat) : RtoInv ticksPerMs i := (if_pos hten).mpr hrto

theorem RtoInv.of_few {ticksPerMs : Nat} {i : Initiator} (hfew : i.samp.length ≠ 10)
    (hrto : ∃ k : Fin 5, i.rto = 300 * ticksPerMs * 2 ^ k.val) : RtoInv ticksPerMs i := (if_neg hfew).mpr hrto

theorem RtoInv.backedOff {ticksPerMs : Nat} {i : Initiator} (h : RtoInv ticksPerMs i) (hfew : i.samp.length ≠ 10) :
    ∃ k : Fin 5, i.rto = 300 * ticksPerMs * 2 ^ k.val := (if_neg hfew).mp h

/-! ### The handshake (R23, R164, R191) -/

theorem HandshakeInv.connect (par : Params) (i : Initiator) (now : Time) (isn : Seq) :
    HandshakeInv par.ticksPerMs now (i.connect par now isn) where
  attemptsLow := by simp
  attemptsHigh := by simp
  started := BitVec.le_refl _
  noSample := rfl
  backedOff := by simp
  noCount := ⟨rfl, rfl, rfl⟩

theorem HandshakeInv.retry {ticksPerMs : Nat} {t : Time} {i : Initiator} (h : HandshakeInv ticksPerMs t i) (now : Time) (isn2 : Seq)
    (hlow : i.attempts.toNat < 5) :
    HandshakeInv ticksPerMs now { tcBackoff i with attempts := i.attempts + 1, isn := isn2, synTime := now } := by
  have hsucc : (i.attempts + 1).toNat = i.attempts.toNat + 1 := by bv_omega
  refine ⟨by simp only [hsucc]; omega, by simp only [hsucc]; omega, BitVec.le_refl _, h.noSample, ?_, h.noCount⟩
  obtain ⟨k, hk⟩ : ∃ k, i.attempts.toNat = k + 1 := Nat.exists_eq_succ_of_ne_zero (by have := h.attemptsLow; omega)
  have hrto := h.backedOff
  simp only [tcBackoff, hsucc, hrto, hk, Nat.add_sub_cancel, Config.backoffFactor]
  ring

theorem HandshakeInv.establish {ticksPerMs : Nat} {t : Time} {i : Initiator} (h : HandshakeInv ticksPerMs t i) (now : Time)
    (serverSeq : Seq) : TransferInv now (i.establish serverSeq) where
  baseLow := BitVec.le_refl _
  nextLow := BitVec.le_def.mpr (Nat.zero_le _)
  keys := rfl
  entries := nofun
  bytes := rfl
  window := Nat.zero_le _
  timer := by simp
  timerSince := nofun
  sentSum := by obtain ⟨h1, h2, h3⟩ := h.noCount; simp [h1, h2, h3]
  sentOnce := by obtain ⟨h1, -, -⟩ := h.noCount; simp [h1]

/-- The timeout is what the handshake's back-offs left (R167). -/
theorem HandshakeInv.establish_rto {ticksPerMs : Nat} {t : Time} {i : Initiator} (h : HandshakeInv ticksPerMs t i)
    (serverSeq : Seq) : RtoInv ticksPerMs (i.establish serverSeq) := by
  refine .of_few (by simp [h.noSample]) ?_
  exact ⟨⟨i.attempts.toNat - 1, by have := h.attemptsHigh; omega⟩, h.backedOff⟩

/-! ### One packet is sent (R222, R224, R225) -/

theorem newPending_inv (i : Initiator) (now : Time) {payload : List Byte} (hlow : 1 ≤ payload.length) (hhigh : payload.length ≤ 80) :
    PendingInv now (newPending i now payload) := by
  have hseq := i.nextSeq.isLt
  have hstart : i.sliceStart = 40 * i.nextSeq.toNat := rfl
  have hsize : (BitVec.ofNat 7 payload.length).toNat = payload.length := by simp only [BitVec.toNat_ofNat]; omega
  have hlength : (BitVec.ofNat 7 payload.length).setWidth 8 = BitVec.ofNat 8 payload.length := by
    apply BitVec.eq_of_toNat_eq
    simp only [BitVec.toNat_setWidth, hsize, BitVec.toNat_ofNat]
  have hstartAt : (BitVec.ofNat 32 i.sliceStart).toNat = 40 * i.nextSeq.toNat := by
    rw [BitVec.toNat_ofNat, hstart, Nat.mod_eq_of_lt (by omega)]
  have hstopAt : (BitVec.ofNat 32 (i.sliceStart + payload.length)).toNat = 40 * i.nextSeq.toNat + payload.length := by
    rw [BitVec.toNat_ofNat, hstart, Nat.mod_eq_of_lt (by omega)]
  have hraw : (encode (mkData i.nextSeq payload)).length = 8 + payload.length := encode_length _
  constructor <;> simp only [newPending, hsize, hstartAt, hstopAt, hraw]
  case sizeLow => exact hlow
  case sizeHigh => exact hhigh
  case sentBefore => exact BitVec.le_refl _
  case stored => simp [wire, hlength]

theorem pendingBytes_append (l m : List Pending) : pendingBytes (l ++ m) = pendingBytes l + pendingBytes m := by
  induction l with
  | nil => simp [pendingBytes]
  | cons e es ih => simp [pendingBytes, ih, Nat.add_assoc]

/-- The Initiator unit after one packet is sent, register by register: its entry goes to the end of the buffer (R222). -/
theorem TransferInv.sendNew_eq {t : Time} {i : Initiator} (h : TransferInv t i) (now : Time) (payload : List Byte) :
    i.sendNew now payload = { i with
      pend := i.pend ++ [newPending i now payload]
      nextSeq := i.nextSeq + 1
      bytesInFlight := i.bytesInFlight + BitVec.ofNat 9 payload.length
      timerRunning := true
      timerStart := if i.timerRunning then i.timerStart else now
      initialSent := i.initialSent + 1
      totalSent := i.totalSent + 1 } := by
  have hpend : putBy Pending.key (newPending i now payload) i.pend = i.pend ++ [newPending i now payload] :=
    putBy_append fun e he => (h.windowKeys.mem he).2
  cases hrun : i.timerRunning <;> simp [Initiator.sendNew, Initiator.startTimer, Initiator.countInitial, hpend, hrun]

theorem TransferInv.sendNew {t now : Time} {i : Initiator} {payload : List Byte} (h : TransferInv t i) (hnow : t ≤ now)
    (hnext : i.nextSeq < i.target) (hlow : 1 ≤ payload.length) (hhigh : payload.length ≤ 80)
    (hfits : i.bytesInFlight.toNat + payload.length ≤ 400) : TransferInv now (i.sendNew now payload) := by
  have hbase := h.baseLow
  have hsucc : (i.nextSeq + 1).toNat = i.nextSeq.toNat + 1 := by bv_omega
  have hflight : (i.bytesInFlight + BitVec.ofNat 9 payload.length).toNat = i.bytesInFlight.toNat + payload.length := by
    simp only [BitVec.toNat_add, BitVec.toNat_ofNat]
    omega
  have hsize : (newPending i now payload).size.toNat = payload.length := by
    simp only [newPending, BitVec.toNat_ofNat]
    omega
  rw [h.sendNew_eq]
  constructor <;> dsimp only
  case baseLow => bv_omega
  case nextLow => bv_omega
  case keys =>
    have hlen : i.nextSeq.toNat + 1 - i.base.toNat = i.nextSeq.toNat - i.base.toNat + 1 := by bv_omega
    have hkey : (newPending i now payload).key = i.base.toNat + (i.nextSeq.toNat - i.base.toNat) := by
      change i.nextSeq.toNat = _
      bv_omega
    rw [hsucc, hlen, List.range'_1_concat, List.map_append, h.keys, List.map_singleton, hkey]
  case entries =>
    intro e he
    obtain hold | hnew := List.mem_append.mp he
    · exact (h.entries e hold).later hnow
    · exact List.mem_singleton.mp hnew ▸ newPending_inv i now hlow hhigh
  case bytes => simp only [hflight, pendingBytes_append, h.bytes, pendingBytes, hsize, Nat.add_zero]
  case window => rw [hflight]; exact hfits
  case timer => simp
  case timerSince =>
    intro _
    split
    · exact BitVec.le_trans (h.timerSince ‹_›) hnow
    · exact BitVec.le_refl _
  case sentSum => rw [h.sentSum]; abel
  case sentOnce =>
    have hlt : i.nextSeq.toNat + 1 < 2 ^ 16 := by bv_omega
    rw [h.sentOnce]
    apply BitVec.eq_of_toNat_eq
    simp only [BitVec.toNat_add, BitVec.toNat_setWidth, hsucc]
    simp

/-! ### A timeout (R232) -/

@[simp] theorem Pending.retransmit_key (now : Time) (e : Pending) : (e.retransmit now).key = e.key := by
  unfold Pending.retransmit Pending.key; split <;> rfl

@[simp] theorem Pending.retransmit_size (now : Time) (e : Pending) : (e.retransmit now).size = e.size := by
  unfold Pending.retransmit; split <;> rfl

theorem PendingInv.retransmit {t now : Time} {e : Pending} (h : PendingInv t e) : PendingInv now (e.retransmit now) := by
  have heq : e.retransmit now = { e with sendTime := now, retries := e.retries + 1 } := by simp [Pending.retransmit, h.fresh]
  rw [heq]
  exact { h with sentBefore := BitVec.le_refl _ }

theorem pendingBytes_map_retransmit (now : Time) (l : List Pending) : pendingBytes (l.map (Pending.retransmit now)) = pendingBytes l := by
  induction l with
  | nil => rfl
  | cons e es ih => simp [pendingBytes, ih]

/-- The Initiator unit after a timeout, register by register (R232). -/
theorem Initiator.retransmitAll_eq (i : Initiator) (now : Time) :
    i.retransmitAll now = { i with
      pend := i.pend.map (Pending.retransmit now)
      retransmits := i.retransmits + BitVec.ofNat 32 i.unacked.length
      totalSent := i.totalSent + BitVec.ofNat 32 i.unacked.length
      timerStart := now } := by
  rw [retransmitAll, countRetransmits_eq]
  rfl

theorem TransferInv.retransmitAll {t : Time} {i : Initiator} (h : TransferInv t i) (now : Time) :
    TransferInv now (i.retransmitAll now) := by
  rw [Initiator.retransmitAll_eq]
  constructor <;> dsimp only
  case baseLow => exact h.baseLow
  case nextLow => exact h.nextLow
  case keys =>
    rw [List.map_map, ← h.keys]
    exact List.map_congr_left fun e _ => Pending.retransmit_key now e
  case entries =>
    intro e he
    obtain ⟨x, hx, rfl⟩ := List.mem_map.mp he
    exact (h.entries x hx).retransmit
  case bytes => rw [pendingBytes_map_retransmit]; exact h.bytes
  case window => exact h.window
  case timer => rw [ne_eq, List.map_eq_nil_iff]; exact h.timer
  case timerSince => exact fun _ => BitVec.le_refl _
  case sentSum => rw [h.sentSum, BitVec.add_assoc]
  case sentOnce => exact h.sentOnce

/-! ### An ACK (R227, R230, R231) -/

theorem filter_le_range' (a b n : Nat) :
    (List.range' b n).filter (fun k => a ≤ k) = List.range' (max b a) (b + n - max b a) := by
  induction n generalizing b with
  | zero => simp
  | succ n ih =>
    rw [List.range'_succ]
    by_cases hle : a ≤ b
    · rw [← List.range'_succ, max_eq_left hle, Nat.add_sub_cancel_left]
      exact List.filter_eq_self.mpr fun k hk => decide_eq_true (le_trans hle (List.mem_range'_1.mp hk).1)
    · rw [List.filter_cons_of_neg (by simpa using hle), ih]
      congr 1 <;> omega

/-- What an ACK leaves of the window starts at the new base. -/
theorem TransferInv.keys_fromAck {t : Time} {i : Initiator} (h : TransferInv t i) (ack : Seq) :
    (i.fromAck ack).map Pending.key =
      List.range' (ackedBase ack i.base i.nextSeq).toNat (i.nextSeq.toNat - (ackedBase ack i.base i.nextSeq).toNat) := by
  have hfilter : (i.fromAck ack).map Pending.key = (i.pend.map Pending.key).filter (fun k => ack.toNat ≤ k) := by
    rw [List.filter_map]
    rfl
  rw [hfilter, h.keys, filter_le_range']
  have hbase : i.base.toNat ≤ i.nextSeq.toNat := h.baseLow
  unfold ackedBase
  split_ifs with hlow hhigh
  · have hle : ack.toNat ≤ i.base.toNat := hlow
    congr 1 <;> omega
  · have hle : i.nextSeq.toNat ≤ ack.toNat := hhigh
    have hnone : i.base.toNat + (i.nextSeq.toNat - i.base.toNat) - max i.base.toNat ack.toNat = 0 := by omega
    rw [hnone, Nat.sub_self]
    rfl
  · have hlt : i.base.toNat < ack.toNat := BitVec.not_le.mp hlow
    congr 1 <;> omega

theorem TransferInv.afterAck {t now : Time} {i : Initiator} (h : TransferInv t i) (hnow : t ≤ now) (ack : Seq) :
    TransferInv now (i.afterAck ack now) := by
  have hbytes : (BitVec.ofNat 9 (pendingBytes (i.fromAck ack))).toNat = pendingBytes (i.fromAck ack) ∧
      pendingBytes (i.fromAck ack) ≤ 400 := by
    have hsum := pendingBytes_filter (fun e => decide (ack ≤ e.seq)) i.pend
    have hall := h.bytes
    have hwindow := h.window
    have hle : pendingBytes (i.fromAck ack) ≤ 400 := by unfold Initiator.fromAck; omega
    exact ⟨by rw [BitVec.toNat_ofNat, Nat.mod_eq_of_lt (by omega)], hle⟩
  obtain ⟨hflight, hle⟩ := hbytes
  unfold Initiator.afterAck
  constructor <;> dsimp only
  case baseLow => exact ackedBase_le_next h.baseLow
  case nextLow => exact h.nextLow
  case keys => exact h.keys_fromAck ack
  case entries => exact fun e he => (h.entries e (List.mem_filter.mp he).1).later hnow
  case bytes => exact hflight
  case window => rw [hflight]; exact hle
  case timer =>
    split
    · rw [Initiator.fromAck_of_below ‹_›]
      exact h.timer
    · simp
  case timerSince =>
    intro hrun
    split
    · exact BitVec.le_refl _
    · by_cases hnew : i.below ack = []
      · exact BitVec.le_trans (h.timerSince ((if_pos hnew).symm.trans hrun)) hnow
      · have hleft : i.fromAck ack ≠ [] := by simpa [hnew] using hrun
        exact absurd (And.intro hnew hleft) ‹_›
  case sentSum => exact h.sentSum
  case sentOnce => exact h.sentOnce

theorem Initiator.length_sampAfter (i : Initiator) (ack : Seq) (now : Time) :
    (i.sampAfter ack now).length = min 10 (i.samp.length + (i.below ack).length) := by
  simp [sampAfter, length_rtake]

/-- After an ACK that released something the timeout is recomputed from ten samples, or there were fewer than ten before. -/
theorem RtoInv.afterAck {ticksPerMs : Nat} {i : Initiator} (h : RtoInv ticksPerMs i) (hsamp : i.samp.length ≤ 10) (ack : Seq)
    (now : Time) : RtoInv ticksPerMs (i.afterAck ack now) := by
  by_cases hnew : i.below ack = []
  · have hsame : i.sampAfter ack now = i.samp := by simp [Initiator.sampAfter, hnew, rtake_of_length_le hsamp]
    unfold RtoInv at h ⊢
    simpa [Initiator.afterAck, Initiator.rtoAfter, hnew, hsame] using h
  · by_cases hten : (i.sampAfter ack now).length = 10
    · exact .of_ten hten (if_pos ⟨hnew, hten⟩)
    · have hlength := i.length_sampAfter ack now
      obtain ⟨k, hk⟩ := h.backedOff (by omega)
      exact .of_few hten ⟨k, (if_neg fun hboth => hten hboth.2).trans hk⟩

/-! ### Every step -/

/-- A unit of which only the number of samples matters: its connection is closed (R42). -/
theorem IniInv.of_closed {s : State} {now : Time} {i : Initiator} (hconn : i.conn = .closed) (hsamp : i.samp.length ≤ 10) :
    IniInv { s with lastNow := now, ini := i } where
  samples := hsamp
  handshake hsyn := by cases hconn.symm.trans hsyn
  transfer hest := by cases hconn.symm.trans hest
  timeout hest := by cases hconn.symm.trans hest

theorem IniInv.of_synSent {s : State} {now : Time} {i : Initiator} (hconn : i.conn = .synSent)
    (h : HandshakeInv s.par.ticksPerMs now i) : IniInv { s with lastNow := now, ini := i } where
  samples := by rw [h.noSample]; exact Nat.zero_le _
  handshake _ := h
  transfer hest := by cases hconn.symm.trans hest
  timeout hest := by cases hconn.symm.trans hest

theorem IniInv.of_established {s : State} {now : Time} {i : Initiator} (hconn : i.conn = .established) (hsamp : i.samp.length ≤ 10)
    (h : TransferInv now i) (hrto : RtoInv s.par.ticksPerMs i) : IniInv { s with lastNow := now, ini := i } where
  samples := hsamp
  handshake hsyn := by cases hconn.symm.trans hsyn
  transfer _ := h
  timeout _ := hrto

/-- What SND.RECV consumes keeps the invariant of the transfer (R226 to R231). -/
theorem RecvMove.keeps_inv {s : State} {now : Time} {i j : Initiator} (hmove : RecvMove i now j) (hconn : i.conn = .established)
    (hsamp : i.samp.length ≤ 10) {t : Time} (h : TransferInv t i) (hnow : t ≤ now) (hrto : RtoInv s.par.ticksPerMs i) :
    IniInv { s with lastNow := now, ini := j } := by
  cases hmove with
  | keep => exact .of_established hconn hsamp (h.later hnow) hrto
  | latch pct => exact .of_established hconn hsamp { h.later hnow with } hrto
  | ack ack _ =>
    rw [h.processAck_eq hsamp]
    exact .of_established hconn (by simp [Initiator.afterAck, Initiator.length_sampAfter]) (h.afterAck hnow ack)
      (hrto.afterAck hsamp ack now)

theorem IniMove.keeps_inv {s : State} {now : Time} {i : Initiator} (hmove : IniMove s.par s.ini now i) (hnow : s.lastNow ≤ now)
    (h : IniInv s) : IniInv { s with lastNow := now, ini := i } := by
  cases hmove with
  | keep => exact h.later hnow
  | reset => exact .of_closed rfl (Nat.zero_le _)
  | retarget target hconn => exact .of_closed hconn h.samples
  | connect isn hconn => exact .of_synSent rfl (HandshakeInv.connect s.par s.ini now isn)
  | retry isn2 hconn hlow => exact .of_synSent hconn ((h.handshake hconn).retry now isn2 hlow)
  | fail rto hconn => exact .of_closed rfl h.samples
  | establish serverSeq hconn =>
    exact .of_established rfl h.samples ((h.handshake hconn).establish now serverSeq) ((h.handshake hconn).establish_rto serverSeq)
  | finish hconn => exact .of_closed rfl h.samples
  | send payload hconn hnext hlow hhigh hfits =>
    have htransfer := (h.transfer hconn).sendNew hnow hnext hlow hhigh hfits
    have heq := (h.transfer hconn).sendNew_eq now payload
    rw [heq] at htransfer ⊢
    exact .of_established hconn h.samples htransfer (h.timeout hconn)
  | turn phase hconn => exact .of_established hconn h.samples (((h.transfer hconn).later hnow).setPhase phase) (h.timeout hconn)
  | recv _ hconn hrecv =>
    exact hrecv.keeps_inv hconn h.samples ((h.transfer hconn).setPhase .tchk) hnow (h.timeout hconn)
  | timeout hconn hrun =>
    have htransfer := ((h.transfer hconn).retransmitAll now).setPhase .fill
    rw [Initiator.retransmitAll_eq] at htransfer ⊢
    exact .of_established hconn h.samples htransfer (h.timeout hconn)

/-! ## What a lasting session keeps (R42 (f), R81, R233) -/

/-- Entries of the buffer with one sequence number are one entry (R25). -/
theorem TransferInv.eq_of_seq {t : Time} {i : Initiator} (h : TransferInv t i) {e e' : Pending} (he : e ∈ i.pend) (he' : e' ∈ i.pend)
    (hseq : e'.seq = e.seq) : e' = e := by
  have hnodup : (i.pend.map Pending.key).Nodup := h.keys ▸ List.nodup_range'
  exact List.inj_on_of_nodup_map hnodup he' he (congrArg BitVec.toNat hseq)

/-- The number, the stored datagram, the size and the byte range of two entries agree (R25). -/
structure Pending.SameStored (e' e : Pending) : Prop where
  seq : e'.seq = e.seq
  raw : e'.raw = e.raw
  size : e'.size = e.size
  start : e'.start = e.start
  stop : e'.stop = e.stop

theorem Pending.SameStored.refl (e : Pending) : e.SameStored e := ⟨rfl, rfl, rfl, rfl, rfl⟩

theorem Pending.retransmit_sameStored (now : Time) (e : Pending) : (e.retransmit now).SameStored e := by
  unfold retransmit
  split <;> exact ⟨rfl, rfl, rfl, rfl, rfl⟩

/-- What a step of a lasting session does to the window: the base does not decrease, and every entry is an entry of before with its
stored datagram, or has a number that no entry had. -/
structure SessionStep (i j : Initiator) : Prop where
  base : i.base ≤ j.base
  entries : ∀ e' ∈ j.pend, (∃ e ∈ i.pend, e'.SameStored e) ∨ e'.seq = i.nextSeq

/-- A step that leaves the base and the buffer as they are. -/
theorem SessionStep.of_same {i j : Initiator} (hbase : j.base = i.base) (hpend : j.pend = i.pend) : SessionStep i j :=
  ⟨by rw [hbase]; exact BitVec.le_refl _, fun e' he' => .inl ⟨e', hpend ▸ he', .refl e'⟩⟩

theorem RecvMove.sessionStep {t now : Time} {i j : Initiator} (hmove : RecvMove i now j) (h : TransferInv t i)
    (hsamp : i.samp.length ≤ 10) : SessionStep i j := by
  cases hmove with
  | keep => exact .of_same rfl rfl
  | latch pct => exact .of_same rfl rfl
  | ack ack _ =>
    rw [h.processAck_eq hsamp]
    exact ⟨base_le_ackedBase h.baseLow, fun e' he' => .inl ⟨e', (List.mem_filter.mp he').1, .refl e'⟩⟩

theorem IniMove.sessionStep {s : State} {now : Time} {i : Initiator} (hmove : IniMove s.par s.ini now i) (hinv : IniInv s)
    (hconn : s.ini.conn = .established) (hlasts : i.conn = .established) : SessionStep s.ini i := by
  have h := hinv.transfer hconn
  cases hmove with
  | keep => exact .of_same rfl rfl
  | reset | finish => cases hlasts
  | retarget _ hother | connect _ hother | retry _ hother | fail _ hother | establish _ hother =>
    cases hconn.symm.trans hother
  | send payload =>
    rw [h.sendNew_eq]
    refine ⟨BitVec.le_refl _, fun e' he' => ?_⟩
    obtain hold | hnew := List.mem_append.mp he'
    · exact .inl ⟨e', hold, .refl e'⟩
    · exact .inr (congrArg Pending.seq (List.mem_singleton.mp hnew))
  | turn phase => exact .of_same rfl rfl
  | recv _ _ hrecv =>
    obtain ⟨hbase, hentries⟩ := hrecv.sessionStep (h.setPhase .tchk) hinv.samples
    exact ⟨hbase, hentries⟩
  | timeout =>
    rw [Initiator.retransmitAll_eq]
    refine ⟨BitVec.le_refl _, fun e' he' => ?_⟩
    obtain ⟨e, he, rfl⟩ := List.mem_map.mp he'
    exact .inl ⟨e, he, e.retransmit_sameStored now⟩

/-! ## Reset (R40) -/

/-- The registers to which R40 gives a value. -/
theorem Initiator.reset_values (p : Params) :
    let i := Initiator.reset p
    i.target = 0 ∧ i.rto = 300 * p.ticksPerMs ∧ i.samp = [] ∧ i.conn = .closed ∧ i.attempts = 0 ∧ i.base = 0 ∧
      i.nextSeq = 0 ∧ i.bytesInFlight = 0 ∧ i.pend = [] ∧ i.timerRunning = false ∧ i.initialSent = 0 ∧ i.retransmits = 0 ∧
      i.totalSent = 0 ∧ i.hsFailed = false ∧ i.xferDone = false ∧ i.peerDropValid = false :=
  ⟨rfl, rfl, rfl, rfl, rfl, rfl, rfl, rfl, rfl, rfl, rfl, rfl, rfl, rfl, rfl, rfl⟩

/-! ## The statements -/

/-- Settles O54: the step makes one of the initiator's moves, each of which keeps the invariant as the clock moves on. -/
theorem everyStepKeepsTheInitiatorInvariant : Obligations.EveryStepKeepsTheInitiatorInvariant := by
  unfold Obligations.EveryStepKeepsTheInitiatorInvariant
  intro s t hinv h
  obtain ⟨hpar, hclock⟩ := step_par_clock h
  obtain ⟨hsamples, hhandshake, htransfer, htimeout⟩ := (step_iniMove h).keeps_inv hclock hinv
  exact ⟨hsamples, hpar ▸ hhandshake, htransfer, hpar ▸ htimeout⟩

/-- Settles O55: the step makes one of the responder's moves, and no step changes a parameter. -/
theorem everyStepKeepsTheResponderInvariant : Obligations.EveryStepKeepsTheResponderInvariant := by
  unfold Obligations.EveryStepKeepsTheResponderInvariant
  intro s t hinv h
  exact (step_rspMove h).keeps_inv (step_par_clock h).1 hinv

/-- Settles O38: ACK processing in closed form, in the statement's own variables. -/
theorem ackReleasesEverythingBelowIt : Obligations.AckReleasesEverythingBelowIt := by
  unfold Obligations.AckReleasesEverythingBelowIt
  rintro p s now _ _ _ _ hopen hinv hack rfl rfl rfl rfl
  exact exec_ack_open hopen hinv hack

/-- Settles O39: no pending entry lies below the base, so the closed form releases nothing. -/
theorem staleAckChangesNothingButPhase : Obligations.StaleAckChangesNothingButPhase := by
  unfold Obligations.StaleAckChangesNothingButPhase
  intro p s now hopen hinv hack hle
  have htransfer := hinv.transfer hopen.enabled
  rw [exec_ack_open hopen hinv hack, (htransfer.setPhase .tchk).afterAck_stale hinv.samples hle, htransfer.below_stale hle]
  rfl

/-- Settles O41: an entry with an old number is the old entry of that number, which no number of a new entry is. -/
theorem storedDatagramNeverChanges : Obligations.StoredDatagramNeverChanges := by
  unfold Obligations.StoredDatagramNeverChanges
  intro s t h hinv hconn hlasts e he e' he' hseq
  have htransfer := hinv.transfer hconn
  obtain ⟨x, hx, hsame⟩ | hnew := ((step_iniMove h).sessionStep hinv hconn hlasts).entries e' he'
  · obtain rfl := htransfer.eq_of_seq he hx (hsame.seq.symm.trans hseq)
    exact ⟨hsame.raw, hsame.size, hsame.start, hsame.stop⟩
  · have hlt := (htransfer.windowKeys.mem he).2
    rw [← hseq, hnew] at hlt
    exact absurd hlt (BitVec.lt_irrefl _)

/-- Settles O42: only an ACK moves the base, and it moves it up. -/
theorem baseNeverDecreases : Obligations.BaseNeverDecreases := by
  unfold Obligations.BaseNeverDecreases
  intro s t h hinv hconn hlasts
  exact ((step_iniMove h).sessionStep hinv hconn hlasts).base

/-- Settles O51: the read rules of the memory, inside and past the length. -/
theorem sourceMemoryReadsBackAndStaysCanonical : Obligations.SourceMemoryReadsBackAndStaysCanonical := by
  unfold Obligations.SourceMemoryReadsBackAndStaysCanonical
  intro s addr b hwf
  refine ⟨srcWrite_srcWf addr b hwf, fun hin => ?_, fun a hne => ?_, fun hout => srcWrite_outside b hout,
    fun len => ⟨srcResize_srcWf len hwf, fun a ha => Memory.read_truncate ha s.src⟩⟩
  · change (srcWrite addr b s).src.read addr = b
    rw [srcWrite_inside b hin]
    exact Memory.read_write_self s.src addr b
  · change (srcWrite addr b s).src.read a = s.src.read a
    obtain hin | hout := Nat.lt_or_ge addr s.srcLen
    · rw [srcWrite_inside b hin]
      exact Memory.read_write_ne hne.symm s.src b
    · rw [srcWrite_outside b hout]

/-- Settles O46: each reset empties the outputs and writes its unit's reset value. -/
theorem resetsGiveTheListedValues : Obligations.ResetsGiveTheListedValues := by
  unfold Obligations.ResetsGiveTheListedValues
  refine fun s rest => ⟨fun hs => ⟨Initiator.reset s.par, step_iniReset hs, ?_⟩, fun hs => step_rspReset hs⟩
  exact Initiator.reset_values s.par

/-- Settles O47: the reset state holds the reset values of both units. -/
theorem resetStateHasTheListedValues : Obligations.ResetStateHasTheListedValues := by
  unfold Obligations.ResetStateHasTheListedValues
  exact ⟨Initiator.reset_values Config.params, rfl⟩

/-- Settles O48: the guards of the two writes. -/
theorem configurationWrites : Obligations.ConfigurationWrites := by
  unfold Obligations.ConfigurationWrites
  refine fun s rest target pct => ⟨fun hs hconn => ?_, fun hs hpct => ?_, fun hs hpct => ?_⟩
  · rw [step_iniCfgWrite hs]
    exact if_pos hconn
  · rw [step_rspCfgWrite hs]
    exact if_pos hpct
  · rw [step_rspCfgWrite hs]
    exact if_neg (Nat.not_le.mpr hpct)

/-- Settles O50: a delivery finds its datagram in flight; the other actions are single updates. -/
theorem channelDeliversCopiesAndTouchesNoUnit : Obligations.ChannelDeliversCopiesAndTouchesNoUnit := by
  unfold Obligations.ChannelDeliversCopiesAndTouchesNoUnit
  exact fun s k a d => ⟨fun x hx => deliverRsp_inFlight hx, fun x hx => (deliverIni_inFlight hx).trans (if_pos rfl),
    fun b x hx hb => (deliverIni_inFlight hx).trans (if_neg hb), rfl, rfl, rfl, rfl⟩

/-- Settles O57: at reset the connection is closed, the table is empty and nothing of the memory is listed. -/
theorem invariantsHoldAtReset : Obligations.InvariantsHoldAtReset := by
  unfold Obligations.InvariantsHoldAtReset
  exact ⟨⟨Nat.zero_le _, nofun, nofun, nofun⟩, ⟨rfl, fun _ _ _ => Nat.zero_le _, Nat.zero_le _⟩, rfl⟩

end Sys2Proof.Machine

/-! # The source payload memory: the launch premise, that no operation writes the memory or reads past its end, and that it stays
canonical (spec/20_memory.md R70) -/

namespace Sys2Proof.Machine

/-! ## INI.CONNECT where the launch premise is met (R70, R191) -/

theorem opConnect_run {s : State} {now : Time} (isn : Seq) (hconn : s.ini.conn = .closed) (hn : s.lastNow ≤ now)
    (hsrc : srcSuffices s) :
    opConnect now isn s = .next
      ((((s.begin.touch now).setIni (s.ini.connect s.par now isn)).emitTx (wire 0x1F isn 0 0 [])).setStatus .synSentOk) := by
  rw [opConnect, timed_run (by simp [hconn]) hn, encode_mkSyn]
  exact if_pos (launchPremise_of_srcSuffices hsrc)

/-! ## Operations and the memory -/

/-- What an outcome of something run from a state means for the source payload memory: a next state holds the same memory, and a
fault comes only where the launch premise is not met (R70). -/
def MemorySafe (s : State) : Result → Prop
  | .next t => t.srcLen = s.srcLen ∧ t.src = s.src
  | .fault _ => ¬srcSuffices s
  | .refused _ => True

theorem MemorySafe.of_ite {c : Prop} [Decidable c] {s : State} {a b : Result} (ha : c → MemorySafe s a) (hb : ¬c → MemorySafe s b) :
    MemorySafe s (if c then a else b) := by
  split
  · exact ha ‹_›
  · exact hb ‹_›

/-- The premise and the memory are read from three fields of the state. -/
theorem MemorySafe.of_same {s s' : State} {r : Result} (h : MemorySafe s' r) (hlen : s'.srcLen = s.srcLen) (hsrc : s'.src = s.src)
    (htarget : s'.ini.target = s.ini.target) : MemorySafe s r := by
  cases r with
  | next t => exact ⟨h.1.trans hlen, h.2.trans hsrc⟩
  | fault f =>
    intro hsuffices
    exact h (by unfold srcSuffices; rw [hlen, htarget]; exact hsuffices)
  | refused why => trivial

theorem timed_memorySafe {name : String} {enabled : Bool} {now : Time} {s : State} {k : State → Result}
    (hk : MemorySafe (s.begin.touch now) (k (s.begin.touch now))) : MemorySafe s (timed name enabled now s k) :=
  .of_ite (fun _ => .of_ite (fun _ => hk.of_same rfl rfl rfl) fun _ => trivial) fun _ => trivial

/-! ### The arms of the receiving operations -/

theorem hsSynAck_memorySafe (sequence ack : Seq) (s : State) : MemorySafe s (.next (hsSynAck sequence ack s)) := by
  unfold hsSynAck
  split <;> exact ⟨rfl, rfl⟩

theorem sndConfig_memorySafe (p : Pkt) (s : State) : MemorySafe s (.next (sndConfig p s)) := by
  unfold sndConfig
  split
  · split <;> exact ⟨rfl, rfl⟩
  · exact ⟨rfl, rfl⟩

theorem sndAck_memorySafe (ack : Seq) (now : Time) (s : State) : MemorySafe s (sndAck ack now s) := by
  refine .of_ite (fun _ => .of_ite (fun _ => ?_) fun _ => trivial) fun _ => ⟨rfl, rfl⟩
  rw [emitSamples_eq]
  exact ⟨rfl, rfl⟩

theorem rspSyn_memorySafe (addr : Addr) (lseq clientSeq : Seq) (s : State) :
    MemorySafe s (.next (rspSyn addr lseq clientSeq s)) := by
  unfold rspSyn
  split <;> exact ⟨rfl, rfl⟩

theorem rspAck_memorySafe (addr : Addr) (s : State) : MemorySafe s (.next (rspAck addr s)) := by
  unfold rspAck
  split
  · exact ⟨rfl, rfl⟩
  · split <;> exact ⟨rfl, rfl⟩

theorem rspFin_memorySafe (addr : Addr) (senderSeq : Seq) (s : State) : MemorySafe s (.next (rspFin addr senderSeq s)) := by
  unfold rspFin
  split <;> exact ⟨rfl, rfl⟩

theorem acceptData_memorySafe (r : Peer) (sequence : Seq) (payload ts : List Byte) (s : State) :
    MemorySafe s (.next (acceptData r sequence payload ts s)) := by
  unfold acceptData
  split <;> exact ⟨rfl, rfl⟩

theorem rspData_memorySafe (addr : Addr) (sequence : Seq) (payload : List Byte) (loss : Fin 100) (ts : List Byte) (s : State) :
    MemorySafe s (rspData addr sequence payload loss ts s) := by
  unfold rspData
  split
  · exact ⟨rfl, rfl⟩
  · split
    · exact ⟨rfl, rfl⟩
    · exact .of_ite (fun _ => ⟨rfl, rfl⟩) fun _ => .of_ite (fun _ => acceptData_memorySafe _ _ _ _ _) fun _ => trivial

/-! ### Handlers -/

/-- In each receiving operation the handler leaves the memory alone and does not fault. -/
structure Handlers.MemorySafe (h : Handlers) : Prop where
  hs : ∀ s, Machine.MemorySafe s (.next (h.hs s))
  snd : ∀ now s, Machine.MemorySafe s (h.snd now s)
  rsp : ∀ addr lseq loss ts s, Machine.MemorySafe s (h.rsp addr lseq loss ts s)

theorem ignored_memorySafe : ignored.MemorySafe := ⟨fun _ => ⟨rfl, rfl⟩, fun _ _ => ⟨rfl, rfl⟩, fun _ _ _ _ _ => ⟨rfl, rfl⟩⟩

theorem malformed_memorySafe : malformed.MemorySafe := ⟨fun _ => ⟨rfl, rfl⟩, fun _ _ => ⟨rfl, rfl⟩, fun _ _ _ _ _ => ⟨rfl, rfl⟩⟩

theorem exec_memorySafe (i : Instr) : ∃ h : Handlers, h.MemorySafe ∧ ∀ s, exec i s = receive (some h) s := by
  cases i with
  | syn p =>
    refine ⟨_, ?_, fun _ => rfl⟩
    exact { ignored_memorySafe with rsp := fun addr lseq _ _ => rspSyn_memorySafe addr lseq p.sequence }
  | synAck p =>
    refine ⟨_, ?_, fun _ => rfl⟩
    exact { ignored_memorySafe with hs := hsSynAck_memorySafe p.sequence p.ack }
  | data p =>
    refine ⟨_, ?_, fun _ => rfl⟩
    exact { ignored_memorySafe with rsp := fun addr _ => rspData_memorySafe addr p.sequence p.payload }
  | ack p =>
    refine ⟨_, ?_, fun _ => rfl⟩
    exact { ignored_memorySafe with snd := sndAck_memorySafe p.ack, rsp := fun addr _ _ _ => rspAck_memorySafe addr }
  | fin p =>
    refine ⟨_, ?_, fun _ => rfl⟩
    exact { ignored_memorySafe with rsp := fun addr _ _ _ => rspFin_memorySafe addr p.sequence }
  | config p =>
    refine ⟨_, ?_, fun _ => rfl⟩
    exact { ignored_memorySafe with snd := fun _ => sndConfig_memorySafe p }
  | type0 | type7 | type8 | type9 | type10 | type11 | type12 | type13 | type14 | type15 =>
    exact ⟨ignored, ignored_memorySafe, fun _ => rfl⟩

/-! ### The operations -/

theorem opConnect_memorySafe (now : Time) (isn : Seq) (s : State) : MemorySafe s (opConnect now isn s) :=
  timed_memorySafe (.of_ite (fun _ => ⟨rfl, rfl⟩) fun _ => trivial)

theorem hsStep_memorySafe (now : Time) (isn2 : Seq) {rx : Option Handlers} (hrx : ∀ h ∈ rx, h.MemorySafe) (s : State) :
    MemorySafe s (hsStep now isn2 (rx.map Handlers.hs) s) := by
  refine timed_memorySafe (.of_ite (fun _ => trivial) fun _ => .of_ite (fun _ => ?_) fun _ => ?_)
  · exact .of_ite (fun _ => ⟨rfl, rfl⟩) fun _ => ⟨rfl, rfl⟩
  · cases rx with
    | none => exact ⟨rfl, rfl⟩
    | some h => exact ((hrx h rfl).hs (s.begin.touch now).popIni).of_same rfl rfl rfl

/-- A slice below the target runs past the end of the memory only where the launch premise is not met (R70, R225). -/
theorem fillSend_memorySafe (now : Time) {chunk : Nat} {s : State} (hnext : s.ini.nextSeq < s.ini.target) :
    MemorySafe s (fillSend now chunk s) := by
  refine .of_ite (fun hrange => .of_ite (fun _ => ⟨rfl, rfl⟩) fun hpast hsuffices => ?_) fun _ => trivial
  obtain ⟨-, hchunk⟩ : 40 ≤ chunk ∧ chunk ≤ 80 := by simpa [chunkInRange] using hrange
  exact hpast (slice_fits hsuffices hnext hchunk)

theorem opFill_memorySafe (now : Time) (chunk : Nat) (s : State) : MemorySafe s (opFill now chunk s) :=
  timed_memorySafe (.of_ite (fun _ => ⟨rfl, rfl⟩) fun _ =>
    .of_ite (fun ⟨hnext, _⟩ => fillSend_memorySafe now hnext) fun _ => ⟨rfl, rfl⟩)

theorem sndRecv_memorySafe (now : Time) {rx : Option Handlers} (hrx : ∀ h ∈ rx, h.MemorySafe) (s : State) :
    MemorySafe s (sndRecv now (rx.map Handlers.snd) s) := by
  refine timed_memorySafe ?_
  cases rx with
  | none => exact ⟨rfl, rfl⟩
  | some h => exact ((hrx h rfl).snd now _).of_same rfl rfl rfl

theorem opTchk_memorySafe (now : Time) (s : State) : MemorySafe s (opTchk now s) := by
  refine timed_memorySafe (.of_ite (fun _ => trivial) fun _ => .of_ite (fun _ => ?_) fun _ => ⟨rfl, rfl⟩)
  rw [emitRaw_eq]
  exact ⟨rfl, rfl⟩

theorem rspRx_memorySafe {rx : Option Handlers} (hrx : ∀ h ∈ rx, h.MemorySafe) (addr : Addr) (lseq : Seq) (loss : Fin 100)
    (ts : List Byte) (s : State) : MemorySafe s (rspRx (rx.map fun h => h.rsp addr lseq loss ts) s) := by
  cases rx with
  | none => trivial
  | some h => exact ((hrx h rfl).rsp addr lseq loss ts s.begin.popRsp).of_same rfl rfl rfl

/-- The shared receive, whichever receiving operation is under way. -/
theorem receive_memorySafe {rx : Option Handlers} (hrx : ∀ h ∈ rx, h.MemorySafe) (s : State) : MemorySafe s (receive rx s) := by
  unfold receive
  split
  · exact hsStep_memorySafe _ _ hrx s
  · exact sndRecv_memorySafe _ hrx s
  · exact rspRx_memorySafe hrx _ _ _ _ s

/-- An operation that receives is memory safe, as all handlers are. -/
theorem runOp_receive_memorySafe {o : Operation} (hp : ∀ t, runPlain o t = receive none t) (s : State) :
    MemorySafe s (runOp o s) := by
  obtain ⟨rx, hrx, hrun⟩ := runOp_receive_of malformed_memorySafe exec_memorySafe (s := s) hp
  rw [hrun]
  exact (receive_memorySafe hrx (latch o s)).of_same (latch_srcLen o s) (latch_src o s) (by rw [latch_ini])

/-- No operation writes the memory, and none reads past its end where the launch premise is met (R70). -/
theorem runOp_memorySafe (o : Operation) (s : State) : MemorySafe s (runOp o s) := by
  cases o with
  | iniReset | rspReset | hcEncode => exact ⟨rfl, rfl⟩
  | iniCfgWrite | rspCfgWrite => exact .of_ite (fun _ => ⟨rfl, rfl⟩) fun _ => trivial
  | iniConnect now isn => exact opConnect_memorySafe now isn s
  | sndFill now chunk => exact opFill_memorySafe now chunk s
  | sndTchk now => exact opTchk_memorySafe now s
  | iniHsStep | sndRecv | rspRx => exact runOp_receive_memorySafe (fun _ => rfl) s
  | hcDecode d =>
    obtain ⟨c, hc, -⟩ := opHcDecode_codec d s
    change MemorySafe s (opHcDecode d s)
    rw [hc]
    exact ⟨rfl, rfl⟩
  | hcParse d =>
    obtain ⟨c, hc, -⟩ := opHcParse_codec d s
    change MemorySafe s (opHcParse d s)
    rw [hc]
    exact ⟨rfl, rfl⟩

/-! ### Steps -/

theorem step_op_memorySafe {s : State} {o : Operation} {rest : List Action} (hs : s.script = .op o :: rest) :
    MemorySafe s (step s) := by
  rw [step_op hs]
  exact (runOp_memorySafe o { s with script := rest }).of_same rfl rfl rfl

/-- Only an operation can stop a step: an action of the environment answers a next state. -/
theorem step_fault {s : State} {f : Fault} (h : step s = .fault f) : ∃ o rest, s.script = .op o :: rest := by
  cases hs : s.script with
  | nil =>
    unfold step at h
    rw [hs] at h
    cases h
  | cons a rest =>
    cases a with
    | op o => exact ⟨o, rest, rfl⟩
    | env e =>
      rw [step_env hs] at h
      cases h

/-- Canonical is a property of the memory and its length. -/
theorem srcWf_congr {s t : State} (hlen : t.srcLen = s.srcLen) (hsrc : t.src = s.src) : t.srcWf = s.srcWf := by
  unfold State.srcWf
  rw [hlen, hsrc]

/-- An action of the environment keeps the canonical form (R70); those of the channel do not touch the memory (R75). -/
theorem runEnv_srcWf (e : EnvAction) {s : State} (h : s.srcWf = true) : (runEnv e s).srcWf = true := by
  cases e with
  | deliverRsp k =>
    change (deliverRsp k s).srcWf = true
    unfold deliverRsp
    split <;> exact h
  | deliverIni k =>
    change (deliverIni k s).srcWf = true
    unfold deliverIni
    split
    · split <;> exact h
    · exact h
  | loseRsp | loseIni | injectRsp | injectIni => exact h
  | srcResize len => exact srcResize_srcWf len h
  | srcWrite addr b => exact srcWrite_srcWf addr b h

/-! ### The statements -/

/-- Settles O25: under the launch premise the connect arm runs, and its SYN is the wire bytes of R108. -/
theorem connectStartsASession : Obligations.ConnectStartsASession := by
  unfold Obligations.ConnectStartsASession
  intro s rest now isn hs hconn hn hsrc
  rw [step_iniConnect hs]
  exact opConnect_run (s := { s with script := rest }) isn hconn hn hsrc

/-- Settles O52: every operation is memory safe. -/
theorem sufficientSourceMemoryMeansNoFault : Obligations.SufficientSourceMemoryMeansNoFault := by
  unfold Obligations.SufficientSourceMemoryMeansNoFault
  refine fun s => ⟨fun hsuffices f hfault => ?_, fun t o rest hs hnext => ?_⟩
  · obtain ⟨o, rest, hs⟩ := step_fault hfault
    have hsafe := step_op_memorySafe hs
    rw [hfault] at hsafe
    exact hsafe hsuffices
  · have hsafe := step_op_memorySafe hs
    rw [hnext] at hsafe
    obtain ⟨hlen, hsrc⟩ := hsafe
    exact ⟨hlen, fun a => by rw [hsrc]⟩

/-- Settles O56: an operation leaves the memory as it is, and the environment's writes keep its form. -/
theorem everyStepKeepsTheMemoryCanonical : Obligations.EveryStepKeepsTheMemoryCanonical := by
  unfold Obligations.EveryStepKeepsTheMemoryCanonical
  intro s t hwf h
  cases hs : s.script with
  | nil =>
    unfold step at h
    rw [hs] at h
    cases h
    exact hwf
  | cons a rest =>
    cases a with
    | op o =>
      have hsafe := step_op_memorySafe hs
      rw [h] at hsafe
      rw [srcWf_congr hsafe.1 hsafe.2]
      exact hwf
    | env e =>
      rw [step_env hs] at h
      cases h
      exact runEnv_srcWf e (s := { s with script := rest }) hwf

end Sys2Proof.Machine

/-! # RSP.RX and the peer it hears from: everything it does depends on that peer's record only and touches that record only
(spec/20_memory.md R77, R79, R82, spec/44_responder_connection.md R260, R272, R273) -/

namespace Sys2Proof.Machine

/-! ## What RSP.RX sees of the responder, and what it does to it -/

/-- What RSP.RX reads of the state when it hears from an address: the record of that address, whether the table is closed to it
(R269), the drop rate and the parameters. -/
structure PeerView where
  record : Option Peer
  shut : Bool
  dropPct : Byte
  par : Params

def State.peerView (s : State) (addr : Addr) : PeerView where
  record := s.rsp.find addr
  shut := (s.rsp.find addr).isNone && s.rsp.full s.par
  dropPct := s.rsp.dropPct
  par := s.par

/-- What RSP.RX does with one packet: the record that the source address then has, what is added to each counter that
a packet can move, and the outputs. -/
structure Reaction where
  record : Option Peer
  drops : Count := 0
  rejects : Count := 0
  outOfOrders : Count := 0
  out : Output

/-- The Responder unit before and after a reaction to a packet from an address. -/
structure Reaction.Edits (x : Reaction) (addr : Addr) (r r' : Responder) : Prop where
  record : r'.find addr = x.record
  others : ∀ b, b ≠ addr → r'.find b = r.find b
  dropPct : r'.dropPct = r.dropPct
  dropCount : r'.dropCount = r.dropCount + x.drops
  rejectCount : r'.rejectCount = r.rejectCount + x.rejects
  malformedCount : r'.malformedCount = r.malformedCount
  oooCount : r'.oooCount = r.oooCount + x.outOfOrders

/-- The state with the Responder unit and the outputs that an RSP.RX leaves, its replies handed to the channel (R75). -/
def State.respond (s : State) (r : Responder) (o : Output) : State :=
  { s with rsp := r, out := o, toIni := s.toIni ++ o.reply }

/-- A state answers the packet from an address as a reaction says, every reply going to that address. -/
structure Reaction.Answers (x : Reaction) (addr : Addr) (s t : State) : Prop where
  edits : x.Edits addr s.rsp t.rsp
  replies : ∀ y ∈ x.out.reply, y.1 = addr
  state : t = s.respond t.rsp x.out

/-! ### The edits of one packet -/

theorem Reaction.Edits.keep (addr : Addr) (r : Responder) (o : Output) :
    Edits { record := r.find addr, out := o } addr r r where
  record := rfl
  others _ _ := rfl
  dropPct := rfl
  dropCount := (BitVec.add_zero _).symm
  rejectCount := (BitVec.add_zero _).symm
  malformedCount := rfl
  oooCount := (BitVec.add_zero _).symm

theorem Reaction.Edits.countDrop (addr : Addr) (r : Responder) (o : Output) :
    Edits { record := r.find addr, drops := 1, out := o } addr r r.countDrop :=
  { keep addr r o with dropCount := rfl }

theorem Reaction.Edits.countReject (addr : Addr) (r : Responder) (o : Output) :
    Edits { record := r.find addr, rejects := 1, out := o } addr r r.countReject :=
  { keep addr r o with rejectCount := rfl }

theorem Reaction.Edits.countOutOfOrder (addr : Addr) (r : Responder) (o : Output) :
    Edits { record := r.find addr, outOfOrders := 1, out := o } addr r r.countOutOfOrder :=
  { keep addr r o with oooCount := rfl }

theorem Reaction.Edits.put {addr : Addr} (r : Responder) {p : Peer} (hp : p.addr = addr) (o : Output) :
    Edits { record := some p, out := o } addr r (r.put p) :=
  { keep addr r o with
    record := hp ▸ r.find_put_self p
    others := fun _ hb => r.find_put_ne fun h => hb (h.symm.trans hp) }

theorem Reaction.Edits.free (addr : Addr) (r : Responder) (o : Output) :
    Edits { record := none, out := o } addr r (r.free addr) :=
  { keep addr r o with
    record := r.find_free_self addr
    others := fun _ hb => r.find_free_ne hb.symm }

/-! ### The outputs of one packet -/

/-- A reaction that emits nothing. -/
theorem Reaction.Answers.of_quiet {x : Reaction} {addr : Addr} {s : State} {r : Responder} {st : Status} (hx : x.Edits addr s.rsp r)
    (hout : x.out = onlyStatus st) : x.Answers addr s ((s.begin.setRsp r).setStatus st) where
  edits := hx
  replies y hy := by rw [hout] at hy; cases hy
  state := by simp [hout, State.respond, onlyStatus, State.setStatus, State.setRsp, State.begin]

/-- A reaction that emits one datagram. -/
theorem Reaction.Answers.of_reply {x : Reaction} {addr : Addr} {s : State} {r : Responder} {d : Datagram} {st : Status}
    (hx : x.Edits addr s.rsp r) (hout : x.out = { onlyStatus st with reply := [(addr, d)] }) :
    x.Answers addr s (((s.begin.setRsp r).emitReply addr d).setStatus st) where
  edits := hx
  replies y hy := by
    rw [hout] at hy
    rw [List.mem_singleton.mp hy]
  state := by rw [hout]; rfl

/-- A reaction that delivers a packet and emits one datagram. -/
theorem Reaction.Answers.of_delivery {x : Reaction} {addr : Addr} {s : State} {r : Responder} {e : Delivery} {d : Datagram}
    {st : Status} (hx : x.Edits addr s.rsp r)
    (hout : x.out = { onlyStatus st with reply := [(addr, d)], delivered := [e] }) :
    x.Answers addr s ((((s.begin.setRsp r).emitDeliver e).emitReply addr d).setStatus st) where
  edits := hx
  replies y hy := by
    rw [hout] at hy
    rw [List.mem_singleton.mp hy]
  state := by rw [hout]; rfl

/-! ## The arms of RSP.RX, one equation per case (R263 to R267, R290, R291) -/

theorem rspAck_of_none {addr : Addr} {s : State} (h : s.rsp.find addr = none) : rspAck addr s = rspReject s := by
  simp only [rspAck, h]

theorem rspAck_of_synReceived {addr : Addr} {s : State} {r : Peer} (h : s.rsp.find addr = some r) (hr : r.state = .synReceived) :
    rspAck addr s = ((s.setRsp (s.rsp.put { r with state := .established, expectedSeq := 0 })).emitReply addr
      (encode (mkConfig s.rsp.dropPct))).setStatus .peerEstablished := by
  simp only [rspAck, h, hr]

theorem rspAck_of_established {addr : Addr} {s : State} {r : Peer} (h : s.rsp.find addr = some r) (hr : r.state = .established) :
    rspAck addr s = s.setStatus .ignored := by
  simp only [rspAck, h, hr]

theorem rspFin_of_none {addr : Addr} {s : State} (senderSeq : Seq) (h : s.rsp.find addr = none) :
    rspFin addr senderSeq s = rspReject s := by
  simp only [rspFin, h]

theorem rspFin_of_some {addr : Addr} {s : State} {r : Peer} (senderSeq : Seq) (h : s.rsp.find addr = some r) :
    rspFin addr senderSeq s =
      ((s.setRsp (s.rsp.free addr)).emitReply addr (encode (mkFinAck senderSeq))).setStatus .finClosed := by
  simp only [rspFin, h]

section
variable {addr : Addr} {s : State} (sequence : Seq) (payload : List Byte) (loss : Fin 100) (ts : List Byte)

theorem rspData_of_none (h : s.rsp.find addr = none) : rspData addr sequence payload loss ts s = .next (rspReject s) := by
  simp only [rspData, h]

theorem rspData_of_synReceived {r : Peer} (h : s.rsp.find addr = some r) (hr : r.state = .synReceived) :
    rspData addr sequence payload loss ts s = .next (rspReject s) := by
  simp only [rspData, h, hr]

theorem rspData_of_established {r : Peer} (h : s.rsp.find addr = some r) (hr : r.state = .established) :
    rspData addr sequence payload loss ts s =
      if loss.val < s.rsp.dropPct.toNat then .next ((s.setRsp s.rsp.countDrop).setStatus .dataDropped)
      else if tsInRange s.par ts then .next (acceptData r sequence payload ts s)
      else .refused .drawOutOfRange := by
  simp only [rspData, h, hr]

end

/-! ## The arms of RSP.RX react to what they see -/

/-- One reaction answers a handler that hears from an address, in every state that shows it one view. -/
def ReactsTo (addr : Addr) (v : PeerView) (handle : State → Result) : Prop :=
  ∃ x : Reaction, ∀ s t : State, s.peerView addr = v → handle s.begin = .next t → x.Answers addr s t

/-- Handlers that agree in every state with the view react alike. -/
theorem ReactsTo.congr {addr : Addr} {v : PeerView} {f g : State → Result} (hg : ReactsTo addr v g)
    (hfg : ∀ s : State, s.peerView addr = v → f s.begin = g s.begin) : ReactsTo addr v f := by
  obtain ⟨x, hx⟩ := hg
  exact ⟨x, fun s t hv h => hx s t hv ((hfg s hv).symm.trans h)⟩

/-- A handler that always answers a next state. -/
theorem ReactsTo.of_next {addr : Addr} {v : PeerView} {f : State → State} (x : Reaction)
    (hx : ∀ s : State, s.peerView addr = v → x.Answers addr s (f s.begin)) : ReactsTo addr v fun s => .next (f s) :=
  ⟨x, fun s t hv h => by cases h; exact hx s hv⟩

/-- A handler that refuses has nothing to answer. -/
theorem ReactsTo.of_refused (addr : Addr) (v : PeerView) (why : Refusal) : ReactsTo addr v fun _ => .refused why :=
  ⟨{ record := none, out := Output.empty }, fun _ _ _ h => by cases h⟩

theorem find_of_view {addr : Addr} {s : State} {v : PeerView} (h : s.peerView addr = v) : s.rsp.find addr = v.record :=
  congrArg PeerView.record h

section
variable (addr : Addr) (v : PeerView)

theorem ignored_reacts : ReactsTo addr v fun s => .next (s.setStatus .ignored) :=
  .of_next { record := v.record, out := onlyStatus .ignored } fun s hv => by
    cases hv
    exact .of_quiet (.keep addr s.rsp _) rfl

theorem rspReject_reacts : ReactsTo addr v fun s => .next (rspReject s) :=
  .of_next { record := v.record, rejects := 1, out := onlyStatus .rejected } fun s hv => by
    cases hv
    exact .of_quiet (.countReject addr s.rsp _) rfl

theorem countDrop_reacts : ReactsTo addr v fun s => .next ((s.setRsp s.rsp.countDrop).setStatus .dataDropped) :=
  .of_next { record := v.record, drops := 1, out := onlyStatus .dataDropped } fun s hv => by
    cases hv
    exact .of_quiet (.countDrop addr s.rsp _) rfl

theorem rspSyn_reacts (lseq clientSeq : Seq) : ReactsTo addr v fun s => .next (rspSyn addr lseq clientSeq s) := by
  cases hshut : v.shut with
  | true =>
    refine (rspReject_reacts addr v).congr fun s hv => ?_
    cases hv
    exact congrArg _ (if_pos hshut)
  | false =>
    refine .of_next { record := some { addr := addr, state := .synReceived, expectedSeq := 0, localSeq := lseq },
                      out := { onlyStatus .synAccepted with reply := [(addr, encode (mkSynAck lseq clientSeq))] } } fun s hv => ?_
    cases hv
    have hroom : ¬((s.begin.rsp.find addr).isNone && s.begin.rsp.full s.begin.par) = true := Bool.eq_false_iff.mp hshut
    rw [rspSyn, if_neg hroom]
    exact .of_reply (.put s.rsp rfl _) rfl

theorem rspAck_reacts : ReactsTo addr v fun s => .next (rspAck addr s) := by
  cases hrecord : v.record with
  | none =>
    exact (rspReject_reacts addr v).congr fun s hv =>
      congrArg _ (rspAck_of_none (s := s.begin) ((find_of_view hv).trans hrecord))
  | some r =>
    cases hstate : r.state with
    | synReceived =>
      refine .of_next { record := some { r with state := .established, expectedSeq := 0 },
                        out := { onlyStatus .peerEstablished with reply := [(addr, encode (mkConfig v.dropPct))] } } fun s hv => ?_
      have hfind := (find_of_view hv).trans hrecord
      obtain rfl := Responder.find_addr hfind
      cases hv
      rw [rspAck_of_synReceived (s := s.begin) hfind hstate]
      exact .of_reply (.put s.rsp rfl _) rfl
    | established =>
      exact (ignored_reacts addr v).congr fun s hv =>
        congrArg _ (rspAck_of_established (s := s.begin) ((find_of_view hv).trans hrecord) hstate)

theorem rspFin_reacts (senderSeq : Seq) : ReactsTo addr v fun s => .next (rspFin addr senderSeq s) := by
  cases hrecord : v.record with
  | none =>
    exact (rspReject_reacts addr v).congr fun s hv =>
      congrArg _ (rspFin_of_none (s := s.begin) senderSeq ((find_of_view hv).trans hrecord))
  | some r =>
    refine .of_next { record := none, out := { onlyStatus .finClosed with reply := [(addr, encode (mkFinAck senderSeq))] } }
      fun s hv => ?_
    rw [rspFin_of_some (s := s.begin) senderSeq ((find_of_view hv).trans hrecord)]
    exact .of_reply (.free addr s.rsp _) rfl

theorem acceptData_reacts {r : Peer} (hrecord : v.record = some r) (sequence : Seq) (payload ts : List Byte) :
    ReactsTo addr v fun s => .next (acceptData r sequence payload ts s) := by
  by_cases hseq : sequence = r.expectedSeq
  · refine .of_next { record := some { r with expectedSeq := r.expectedSeq + 1 },
                      out := { onlyStatus .dataInOrder with
                        reply := [(addr, encode (mkCumulativeAck (r.expectedSeq + 1) ts))]
                        delivered := [{ addr := addr, sequence := sequence, payload := payload, inOrder := true }] } } fun s hv => ?_
    obtain rfl := Responder.find_addr ((find_of_view hv).trans hrecord)
    rw [acceptData, if_pos hseq]
    exact .of_delivery (.put s.rsp rfl _) rfl
  · refine .of_next { record := v.record, outOfOrders := 1,
                      out := { onlyStatus .dataOutOfOrder with
                        reply := [(addr, encode (mkCumulativeAck r.expectedSeq ts))]
                        delivered := [{ addr := addr, sequence := sequence, payload := payload, inOrder := false }] } } fun s hv => ?_
    obtain rfl := Responder.find_addr ((find_of_view hv).trans hrecord)
    cases hv
    rw [acceptData, if_neg hseq]
    exact .of_delivery (.countOutOfOrder r.addr s.rsp _) rfl

theorem rspData_reacts (sequence : Seq) (payload : List Byte) (loss : Fin 100) (ts : List Byte) :
    ReactsTo addr v (rspData addr sequence payload loss ts) := by
  cases hrecord : v.record with
  | none =>
    exact (rspReject_reacts addr v).congr fun s hv => rspData_of_none _ _ _ _ ((find_of_view hv).trans hrecord)
  | some r =>
    cases hstate : r.state with
    | synReceived =>
      exact (rspReject_reacts addr v).congr fun s hv =>
        rspData_of_synReceived _ _ _ _ ((find_of_view hv).trans hrecord) hstate
    | established =>
      have harm (s : State) (hv : s.peerView addr = v) :=
        rspData_of_established (s := s.begin) sequence payload loss ts ((find_of_view hv).trans hrecord) hstate
      by_cases hloss : loss.val < v.dropPct.toNat
      · refine (countDrop_reacts addr v).congr fun s hv => ?_
        rw [harm s hv]
        cases hv
        exact if_pos hloss
      · by_cases hts : tsInRange v.par ts = true
        · refine (acceptData_reacts addr v hrecord sequence payload ts).congr fun s hv => ?_
          rw [harm s hv]
          cases hv
          exact (if_neg hloss).trans (if_pos hts)
        · refine (ReactsTo.of_refused addr v .drawOutOfRange).congr fun s hv => ?_
          rw [harm s hv]
          cases hv
          exact (if_neg hloss).trans (if_neg hts)

end

/-! ## Every packet -/

/-- In RSP.RX the handler reacts to what it sees, whatever the draws. -/
def Handlers.Reacts (h : Handlers) : Prop :=
  ∀ addr lseq loss ts v, ReactsTo addr v (h.rsp addr lseq loss ts)

theorem ignored_handler_reacts : ignored.Reacts := fun addr _ _ _ v => ignored_reacts addr v

theorem exec_reacts (i : Instr) : ∃ h : Handlers, h.Reacts ∧ ∀ s, exec i s = receive (some h) s := by
  cases i with
  | syn p =>
    refine ⟨_, ?_, fun _ => rfl⟩
    exact fun addr lseq _ _ v => rspSyn_reacts addr v lseq p.sequence
  | data p =>
    refine ⟨_, ?_, fun _ => rfl⟩
    exact fun addr _ loss ts v => rspData_reacts addr v p.sequence p.payload loss ts
  | ack p =>
    refine ⟨_, ?_, fun _ => rfl⟩
    exact fun addr _ _ _ v => rspAck_reacts addr v
  | fin p =>
    refine ⟨_, ?_, fun _ => rfl⟩
    exact fun addr _ _ _ v => rspFin_reacts addr v p.sequence
  | synAck | config =>
    refine ⟨_, ?_, fun _ => rfl⟩
    exact ignored_handler_reacts
  | type0 | type7 | type8 | type9 | type10 | type11 | type12 | type13 | type14 | type15 =>
    exact ⟨ignored, ignored_handler_reacts, fun _ => rfl⟩

/-- A packet that RSP.RX consumes is answered by one reaction in every state that shows the same view of its source (R82, R260). -/
theorem exec_rspRx_answers (i : Instr) (addr : Addr) (lseq : Seq) (loss : Fin 100) (ts : List Byte) (v : PeerView) :
    ∃ x : Reaction, ∀ s t : State, s.peerView addr = v → exec i { s with rxOp := .rspRx addr lseq loss ts } = .next t →
      x.Answers addr ({ s with rxOp := .rspRx addr lseq loss ts } : State).popRsp t := by
  obtain ⟨h, hreacts, hexec⟩ := exec_reacts i
  obtain ⟨x, hx⟩ := hreacts addr lseq loss ts v
  refine ⟨x, fun s t hv hnext => ?_⟩
  rw [hexec, receive_rspRx h rfl] at hnext
  exact hx _ t hv hnext

/-! ## Two packets from different addresses (R79, R273) -/

/-- The table is not closed to an address: it is unbounded, or the address holds a record (R269). -/
def Admits (s : State) (addr : Addr) : Prop := s.par.maxPeers = none ∨ s.rsp.find addr ≠ none

theorem Admits.shut_eq_false {s : State} {addr : Addr} (h : Admits s addr) : (s.peerView addr).shut = false := by
  unfold State.peerView
  obtain hunbounded | hheld := h
  · simp [Responder.full, hunbounded]
  · simp [hheld]

/-- What RSP.RX sees of an address is as before when it has heard from another. -/
theorem Reaction.Answers.peerView_other {x : Reaction} {addr b : Addr} {s t : State} (h : x.Answers addr s t) (hb : b ≠ addr)
    (hadmits : Admits s b) : t.peerView b = s.peerView b := by
  have hpar : t.par = s.par := by rw [h.state]; rfl
  have hrecord := h.edits.others b hb
  have hadmits' : Admits t b := by
    unfold Admits
    rw [hpar, hrecord]
    exact hadmits
  have hshut := hadmits'.shut_eq_false.trans hadmits.shut_eq_false.symm
  calc t.peerView b = ⟨t.rsp.find b, (t.peerView b).shut, t.rsp.dropPct, t.par⟩ := rfl
    _ = ⟨s.rsp.find b, (s.peerView b).shut, s.rsp.dropPct, s.par⟩ := by rw [hrecord, hshut, h.edits.dropPct, hpar]

/-- Every record, the drop rate and every counter agree (R29 to R31). -/
structure Responder.Same (r r' : Responder) : Prop where
  find : ∀ c, r.find c = r'.find c
  dropPct : r.dropPct = r'.dropPct
  dropCount : r.dropCount = r'.dropCount
  rejectCount : r.rejectCount = r'.rejectCount
  malformedCount : r.malformedCount = r'.malformedCount
  oooCount : r.oooCount = r'.oooCount

/-- Edits for different addresses commute: each record is edited by one of them, and counters add up. -/
theorem Reaction.Edits.comm {x y : Reaction} {a b : Addr} {r rx rxy ry ryx : Responder} (hab : a ≠ b) (hx : x.Edits a r rx)
    (hxy : y.Edits b rx rxy) (hy : y.Edits b r ry) (hyx : x.Edits a ry ryx) : rxy.Same ryx where
  find c := by
    by_cases ha : c = a
    · subst ha
      exact (hxy.others c hab).trans (hx.record.trans hyx.record.symm)
    · by_cases hb : c = b
      · subst hb
        exact hxy.record.trans (hy.record.symm.trans (hyx.others c ha).symm)
      · rw [hxy.others c hb, hx.others c ha, hyx.others c ha, hy.others c hb]
  dropPct := by rw [hxy.dropPct, hx.dropPct, hyx.dropPct, hy.dropPct]
  dropCount := by rw [hxy.dropCount, hx.dropCount, hyx.dropCount, hy.dropCount, add_right_comm]
  rejectCount := by rw [hxy.rejectCount, hx.rejectCount, hyx.rejectCount, hy.rejectCount, add_right_comm]
  malformedCount := by rw [hxy.malformedCount, hx.malformedCount, hyx.malformedCount, hy.malformedCount]
  oooCount := by rw [hxy.oooCount, hx.oooCount, hyx.oooCount, hy.oooCount, add_right_comm]

theorem Reaction.Answers.out_eq {x : Reaction} {addr : Addr} {s t : State} (h : x.Answers addr s t) : t.out = x.out := by
  rw [h.state]; rfl

/-! ## The statements -/

/-- Settles O21: the reaction edits the source's record, and its outputs are replies to the source. -/
theorem rspRxTouchesOnlyItsPeer : Obligations.RspRxTouchesOnlyItsPeer := by
  unfold Obligations.RspRxTouchesOnlyItsPeer
  intro i s t addr lseq loss ts hport hnext
  obtain ⟨x, hx⟩ := exec_rspRx_answers i addr lseq loss ts (s.peerView addr)
  have hsame : ({ s with rxOp := .rspRx addr lseq loss ts } : State) = s := by rw [← hport]
  have hanswers := hx s t rfl (by rw [hsame]; exact hnext)
  rw [hsame] at hanswers
  obtain ⟨hedits, hreplies, hstate⟩ := hanswers
  refine ⟨hedits.others, hedits.dropPct, ?_⟩
  rw [hstate]
  exact ⟨hreplies, rfl, rfl, rfl, rfl, rfl, rfl, rfl, rfl, rfl, fun _ => rfl⟩

/-- Settles O22: neither packet changes what RSP.RX sees of the other's source, so each is answered by the same reaction in
either order, and the two edits commute. -/
theorem rspRxOfDifferentPeersCommute : Obligations.RspRxOfDifferentPeersCommute := by
  unfold Obligations.RspRxOfDifferentPeersCommute
  intro i j s t u t' u' a b la lb xa xb ta tb hab hroom ht hu ht' hu'
  obtain ⟨x, hx⟩ := exec_rspRx_answers i a la xa ta (s.peerView a)
  obtain ⟨y, hy⟩ := exec_rspRx_answers j b lb xb tb (s.peerView b)
  have hadmitsA : Admits s a := hroom.imp_right And.left
  have hadmitsB : Admits s b := hroom.imp_right And.right
  have hfirst := hx s t rfl ht
  have hfirst' := hy s t' rfl ht'
  have hsecond := hy t u (hfirst.peerView_other hab.symm hadmitsB) hu
  have hsecond' := hx t' u' (hfirst'.peerView_other hab hadmitsA) hu'
  obtain ⟨hfind, hpct, hdrop, hreject, hmalformed, hooo⟩ :=
    hfirst.edits.comm hab hsecond.edits hfirst'.edits hsecond'.edits
  exact ⟨hfind, hpct, hdrop, hreject, hmalformed, hooo, hfirst.out_eq.trans hsecond'.out_eq.symm,
    hsecond.out_eq.trans hfirst'.out_eq.symm⟩

end Sys2Proof.Machine

/-! # The initiator's own side: what an operation of the initiator does there depends on that side only
(spec/20_memory.md R75, R76, R78) -/

namespace Sys2Proof.Machine

/-! ## The initiator's side of the state -/

/-- The state as the initiator knows it: the responder, its queue, what is in flight and the receive port are blank. -/
def State.iniSide (s : State) : State :=
  { s with rsp := Responder.reset, rspQueue := [], toRsp := [], toIni := [], rxOp := .rspRx 0 0 0 [] }

/-- What the initiator's side holds. -/
theorem State.iniSide_eq_iff {s t : State} : s.iniSide = t.iniSide ↔
    s.par = t.par ∧ s.ini = t.ini ∧ s.out = t.out ∧ s.srcLen = t.srcLen ∧ s.src = t.src ∧ s.iniQueue = t.iniQueue ∧
      s.lastNow = t.lastNow ∧ s.script = t.script ∧ s.freeCount = t.freeCount := by
  simp [State.iniSide]

/-- An outcome as the initiator knows it. -/
def resultSide : Result → Result
  | .next t => .next t.iniSide
  | .fault f => .fault f
  | .refused why => .refused why

theorem resultSide_eq_next {r : Result} {t : State} (h : resultSide r = .next t) : ∃ t', r = .next t' ∧ t'.iniSide = t := by
  cases r with
  | next t' => exact ⟨t', rfl, Host.Outcome.next.inj h⟩
  | fault f => cases h
  | refused why => cases h

/-! ## What runs within an operation sees the initiator's side only -/

/-- What something run from a state answers on the initiator's side depends on that side only. -/
def Blind (k : State → Result) : Prop := ∀ s, resultSide (k s.iniSide) = resultSide (k s)

theorem Blind.of_ite {c : State → Prop} [∀ s, Decidable (c s)] {a b : State → Result} (hc : ∀ s, c s.iniSide = c s) (ha : Blind a)
    (hb : Blind b) : Blind fun s => if c s then a s else b s := by
  intro s
  by_cases h : c s
  · have h' : c s.iniSide := (hc s).symm ▸ h
    simp only [if_pos h, if_pos h']
    exact ha s
  · have h' : ¬c s.iniSide := fun hside => h (hc s ▸ hside)
    simp only [if_neg h, if_neg h']
    exact hb s

theorem Blind.of_refused (why : Refusal) : Blind fun _ => .refused why := fun _ => rfl

/-! ### The arms of the receiving operations -/

theorem hsSynAck_blind (sequence ack : Seq) : Blind fun s => .next (hsSynAck sequence ack s) := by
  intro s
  by_cases h : ack = s.ini.isn + 1
  · have hside : ack = s.iniSide.ini.isn + 1 := h
    simp only [hsSynAck, if_pos h, if_pos hside]
    rfl
  · have hside : ¬ack = s.iniSide.ini.isn + 1 := h
    simp only [hsSynAck, if_neg h, if_neg hside]
    rfl

theorem sndConfig_blind (p : Pkt) : Blind fun s => .next (sndConfig p s) := by
  intro s
  unfold sndConfig
  split
  · split <;> rfl
  · rfl

theorem sndAck_blind (ack : Seq) (now : Time) : Blind (sndAck ack now) := by
  refine .of_ite (fun _ => rfl) (.of_ite (fun _ => rfl) (fun s => ?_) (.of_refused _)) fun _ => rfl
  rw [emitSamples_eq, emitSamples_eq]
  rfl

/-! ### Handlers -/

/-- In the initiator's receiving operations the handler sees the initiator's side only. -/
structure Handlers.Blind (h : Handlers) : Prop where
  hs : Machine.Blind fun s => .next (h.hs s)
  snd : ∀ now, Machine.Blind (h.snd now)

theorem ignored_blind : ignored.Blind := ⟨fun _ => rfl, fun _ _ => rfl⟩

theorem malformed_blind : malformed.Blind := ⟨fun _ => rfl, fun _ _ => rfl⟩

theorem exec_blind (i : Instr) : ∃ h : Handlers, h.Blind ∧ ∀ s, exec i s = receive (some h) s := by
  cases i with
  | synAck p =>
    refine ⟨_, ?_, fun _ => rfl⟩
    exact { ignored_blind with hs := hsSynAck_blind p.sequence p.ack }
  | ack p =>
    refine ⟨_, ?_, fun _ => rfl⟩
    exact { ignored_blind with snd := sndAck_blind p.ack }
  | config p =>
    refine ⟨_, ?_, fun _ => rfl⟩
    exact { ignored_blind with snd := fun _ => sndConfig_blind p }
  | syn | data | fin =>
    refine ⟨_, ?_, fun _ => rfl⟩
    exact { ignored_blind with }
  | type0 | type7 | type8 | type9 | type10 | type11 | type12 | type13 | type14 | type15 =>
    exact ⟨ignored, ignored_blind, fun _ => rfl⟩

/-! ## The operations, which also empty the outputs first -/

/-- Two states agree on the initiator's side, whatever their outputs. -/
def SameSide (s₁ s₂ : State) : Prop := s₁.begin.iniSide = s₂.begin.iniSide

/-- An operation gives the same on the initiator's side wherever that side is the same. -/
def SideOnly (op : State → Result) : Prop := ∀ s₁ s₂, SameSide s₁ s₂ → resultSide (op s₁) = resultSide (op s₂)

/-- It is enough to compare with the state that has nothing but the initiator's side. -/
theorem SideOnly.of_blank {op : State → Result} (h : ∀ s, resultSide (op s.begin.iniSide) = resultSide (op s)) : SideOnly op := by
  intro s₁ s₂ hsame
  calc resultSide (op s₁) = resultSide (op s₁.begin.iniSide) := (h s₁).symm
    _ = resultSide (op s₂.begin.iniSide) := by rw [hsame]
    _ = resultSide (op s₂) := h s₂

theorem timed_sideOnly {op : State → Result} {name : String} {enabled : Initiator → Bool} {now : Time} {k : State → Result}
    (hop : ∀ s, op s = timed name (enabled s.ini) now s k) (hk : Blind k) : SideOnly op := by
  refine .of_blank fun s => ?_
  rw [hop, hop]
  have hbody : Blind fun u => if enabled u.ini then if u.lastNow ≤ now then k (u.touch now) else .refused .timeBackwards
      else .refused (.notEnabled name) :=
    .of_ite (fun _ => rfl) (.of_ite (fun _ => rfl) (fun u => hk (u.touch now)) (.of_refused _)) (.of_refused _)
  exact hbody s.begin

theorem opIniReset_sideOnly : SideOnly opIniReset := .of_blank fun _ => rfl

theorem opIniCfgWrite_sideOnly (target : Seq) : SideOnly (opIniCfgWrite target) := by
  refine .of_blank fun s => ?_
  have hbody : Blind fun u : State => if u.ini.conn = .closed then .next (u.setIni { u.ini with target := target })
      else .refused (.notEnabled "INI.CFG_WRITE") := .of_ite (fun _ => rfl) (fun _ => rfl) (.of_refused _)
  exact hbody s.begin

theorem opConnect_sideOnly (now : Time) (isn : Seq) : SideOnly (opConnect now isn) := by
  refine timed_sideOnly (enabled := fun i => i.conn == .closed) (fun _ => rfl) ?_
  exact .of_ite (fun _ => rfl) (fun _ => rfl) (.of_refused _)

theorem hsStep_sideOnly (now : Time) (isn2 : Seq) {rx : Option Handlers} (hrx : ∀ h ∈ rx, h.Blind) :
    SideOnly (hsStep now isn2 (rx.map Handlers.hs)) := by
  refine timed_sideOnly (enabled := fun i => i.conn == .synSent) (fun _ => rfl) ?_
  refine .of_ite (fun _ => rfl) (.of_refused _) (.of_ite (fun _ => rfl) ?_ ?_)
  · exact .of_ite (fun _ => rfl) (fun _ => rfl) fun _ => rfl
  · cases rx with
    | none => exact fun _ => rfl
    | some h => exact fun s => (hrx h rfl).hs s.popIni

theorem fillSend_blind (now : Time) (chunk : Nat) : Blind (fillSend now chunk) :=
  .of_ite (fun _ => rfl) (.of_ite (fun _ => rfl) (fun _ => rfl) fun _ => rfl) (.of_refused _)

theorem opFill_sideOnly (now : Time) (chunk : Nat) : SideOnly (opFill now chunk) := by
  refine timed_sideOnly (enabled := fun i => i.inPhase .fill) (fun _ => rfl) ?_
  exact .of_ite (fun _ => rfl) (fun _ => rfl) (.of_ite (fun _ => rfl) (fillSend_blind now chunk) fun _ => rfl)

theorem sndRecv_sideOnly (now : Time) {rx : Option Handlers} (hrx : ∀ h ∈ rx, h.Blind) :
    SideOnly (sndRecv now (rx.map Handlers.snd)) := by
  refine timed_sideOnly (enabled := fun i => i.inPhase .recv) (fun _ => rfl) ?_
  cases rx with
  | none => exact fun _ => rfl
  | some h => exact fun s => (hrx h rfl).snd now (s.setIni { s.ini with phase := .tchk }).popIni

theorem opTchk_sideOnly (now : Time) : SideOnly (opTchk now) := by
  refine timed_sideOnly (enabled := fun i => i.inPhase .tchk) (fun _ => rfl) ?_
  refine .of_ite (fun _ => rfl) (.of_refused _) (.of_ite (fun _ => rfl) (fun s => ?_) fun _ => rfl)
  rw [emitRaw_eq, emitRaw_eq]
  rfl

/-! ## What an operation of the initiator is offered (R75) -/

/-- A receiving operation runs the same shared receive in every state that offers it the same. -/
theorem runOp_receive_offered {P : Handlers → Prop} (hmalformed : P malformed)
    (hexec : ∀ i, ∃ h, P h ∧ ∀ s, exec i s = receive (some h) s) {o : Operation} (hp : ∀ t, runPlain o t = receive none t)
    (offer : Option Datagram) :
    ∃ rx : Option Handlers, (∀ h ∈ rx, P h) ∧ ∀ s, offered o s = offer → runOp o s = receive rx (latch o s) := by
  cases offer with
  | none => exact ⟨none, nofun, fun s hs => by simp only [runOp, hs, hp]⟩
  | some d =>
    cases hd : decode d with
    | ok i =>
      obtain ⟨h, hh, heq⟩ := hexec i
      exact ⟨some h, fun _ he => Option.some.inj he ▸ hh, fun s hs => by simp only [runOp, hs, hd, heq]⟩
    | error why =>
      exact ⟨some malformed, fun _ he => Option.some.inj he ▸ hmalformed, fun s hs => by simp only [runOp, hs, hd]⟩

theorem SameSide.iniQueue {s₁ s₂ : State} (h : SameSide s₁ s₂) : s₁.iniQueue = s₂.iniQueue := by
  obtain ⟨-, -, -, -, -, hqueue, -⟩ := State.iniSide_eq_iff.mp h
  exact hqueue

/-- The receive port is no part of the initiator's side. -/
theorem SameSide.latched {s₁ s₂ : State} (h : SameSide s₁ s₂) (port : RxOp) :
    SameSide { s₁ with rxOp := port } { s₂ with rxOp := port } := h

/-- An operation of the initiator is offered nothing but the head of the initiator's queue (R75, R83). -/
theorem SameSide.offered {s₁ s₂ : State} (h : SameSide s₁ s₂) {o : Operation} (ho : o.ofInitiator = true) :
    offered o s₁ = offered o s₂ := by
  cases o with
  | iniHsStep | sndRecv => simp only [Machine.offered, h.iniQueue]
  | iniReset | iniCfgWrite | iniConnect | sndFill | sndTchk => rfl
  | rspReset | rspCfgWrite | rspRx | hcEncode | hcDecode | hcParse => cases ho

theorem runOp_receive_sideOnly {o : Operation} (ho : o.ofInitiator = true) (hp : ∀ t, runPlain o t = receive none t)
    (hreceive : ∀ rx : Option Handlers, (∀ h ∈ rx, h.Blind) → SideOnly fun s => receive rx (latch o s)) : SideOnly (runOp o) := by
  intro s₁ s₂ hsame
  obtain ⟨rx, hrx, hrun⟩ := runOp_receive_offered malformed_blind exec_blind hp (offered o s₂)
  rw [hrun s₁ (hsame.offered ho), hrun s₂ rfl]
  exact hreceive rx hrx s₁ s₂ hsame

/-- Every operation of the initiator gives the same on its side wherever that side is the same. -/
theorem runOp_sideOnly {o : Operation} (ho : o.ofInitiator = true) : SideOnly (runOp o) := by
  cases o with
  | iniReset => exact opIniReset_sideOnly
  | iniCfgWrite target => exact opIniCfgWrite_sideOnly target
  | iniConnect now isn => exact opConnect_sideOnly now isn
  | iniHsStep now offer isn2 =>
    exact runOp_receive_sideOnly ho (fun _ => rfl) fun rx hrx s₁ s₂ hsame =>
      hsStep_sideOnly now isn2 hrx _ _ (hsame.latched (.hsStep now isn2))
  | sndFill now chunk => exact opFill_sideOnly now chunk
  | sndRecv now offer =>
    exact runOp_receive_sideOnly ho (fun _ => rfl) fun rx hrx s₁ s₂ hsame =>
      sndRecv_sideOnly now hrx _ _ (hsame.latched (.sndRecv now))
  | sndTchk now => exact opTchk_sideOnly now
  | rspReset | rspCfgWrite | rspRx | hcEncode | hcDecode | hcParse => cases ho

/-! ## The statement -/

/-- Settles O59: the two states have the same initiator's side, and so have their next states, with the outputs. -/
theorem initiatorSeesOnlyItsOwnSide : Obligations.InitiatorSeesOnlyItsOwnSide := by
  unfold Obligations.InitiatorSeesOnlyItsOwnSide
  intro s₁ s₂ t₁ o rest ho hs₁ hs₂ hpar hini hlen hsrc hqueue hnow hfree hnext
  have hsame : SameSide { s₁ with script := rest } { s₂ with script := rest } :=
    State.iniSide_eq_iff.mpr ⟨hpar, hini, rfl, hlen, hsrc, hqueue, hnow, rfl, hfree⟩
  have hside := runOp_sideOnly ho _ _ hsame
  rw [← step_op hs₁, ← step_op hs₂, hnext] at hside
  obtain ⟨t₂, hnext₂, ht⟩ := resultSide_eq_next hside.symm
  obtain ⟨hpar', hini', hout', hlen', hsrc', hqueue', hnow', hscript', hfree'⟩ := State.iniSide_eq_iff.mp ht
  exact ⟨t₂, hnext₂, hini', hout', hqueue', hpar', hlen', hsrc', hnow', hfree', hscript'⟩

end Sys2Proof.Machine

/-! # The two round trips of the codec and the words of the opcode table (spec/30_encoding.md R100 to R107, R119, R120, R122,
spec/40_header_codec.md R142, R145) -/

namespace Sys2Proof

/-! ## HC.PARSE, a header and the bytes after it -/

/-- What HC.PARSE accepts: a header is read, and the packet of it and of the trailing bytes is well-formed (R119, R145). -/
theorem decode_eq_ok {d : Datagram} {i : Instr} :
    decode d = .ok i ↔ ∃ h, hcDecode d = .ok h ∧ h.toInstr (d.drop 8) = i ∧ i.wellFormed = true := by
  unfold decode
  cases hcDecode d with
  | error e => simp
  | ok h =>
    by_cases hwf : (h.toInstr (d.drop 8)).wellFormed = true
    · simp only [hwf, if_true, Except.ok.injEq, exists_eq_left']
      exact ⟨fun hi => ⟨hi, hi ▸ hwf⟩, And.left⟩
    · simp only [hwf, Except.ok.injEq, exists_eq_left']
      exact ⟨nofun, fun ⟨hi, hi'⟩ => absurd (hi ▸ hi') hwf⟩

/-- Only DATA and CONFIG have a payload that must match `length` (R107, R119). -/
theorem wellFormed_iff (i : Instr) : i.wellFormed = true ↔ (i.code = 3 ∨ i.code = 6 → i.pkt.payload.length = i.pkt.length.toNat) := by
  cases i with
  | data p | config p => simp [Instr.wellFormed, Instr.code, Instr.pkt, Pkt.lengthMatches]
  | _ p => simp [Instr.wellFormed, Instr.code]

/-- A packet is what its header and its payload make (R146). -/
theorem toInstr_header (i : Instr) : i.header.toInstr i.pkt.payload = i := ofCode_code i

theorem header_toInstr (h : Header) (trailing : List Byte) : (h.toInstr trailing).header = h := by
  simp [Header.toInstr, Instr.header]

theorem pkt_toInstr_payload (h : Header) (trailing : List Byte) : (h.toInstr trailing).pkt.payload = trailing := by
  simp [Header.toInstr]

/-! ## Encoding, then decoding -/

/-- HC.DECODE reads back what HC.ENCODE wrote, whatever follows (R142). -/
theorem hcDecode_hcEncode_append (h : Header) (trailing : List Byte) : hcDecode (hcEncode h ++ trailing) = .ok h := by
  obtain ⟨htype, -⟩ := typeByte_halves h.type
  simp [hcEncode, be16, htype]

theorem drop_hcEncode_append (h : Header) (trailing : List Byte) : (hcEncode h ++ trailing).drop 8 = trailing := rfl

/-! ## Decoding, then encoding -/

theorem be16_fromBe16 (b0 b1 : Byte) : be16 (fromBe16 b0 b1) = [b0, b1] := by
  have hhigh : (b0.toNat * 256 + b1.toNat) / 256 = b0.toNat := by omega
  have hlow : (b0.toNat * 256 + b1.toNat) % 256 = b1.toNat := by omega
  simp [be16_eq, fromBe16_toNat, hhigh, hlow]

/-- Re-encoding byte 0 forces its reserved nibble to ones (R105). -/
theorem typeByte_extract (b : Byte) : typeByte (b.extractLsb' 4 4) = b ||| 0x0F#8 := by
  revert b; decide

/-- Re-encoding a decoded header gives the datagram but for the reserved nibble of byte 0 (R105, R142). -/
theorem hcEncode_of_hcDecode {d : Datagram} {h : Header} (hd : hcDecode d = .ok h) :
    hcEncode h ++ d.drop 8 = (d.headD 0 ||| 0x0F#8) :: d.tail := by
  unfold hcDecode at hd
  split at hd
  · cases hd
    simp [hcEncode, be16_fromBe16, typeByte_extract]
  · cases hd

/-! ## Words of the opcode table -/

/-- The header that R100 reads from a header word: bits 63..60, 55..40, 39..24, 23..8 and 7..0. -/
def wordHeader (w : BitVec 64) : Header :=
  { type := w.extractLsb' 60 4, sequence := w.extractLsb' 40 16, ack := w.extractLsb' 24 16, window := w.extractLsb' 8 16,
    length := w.extractLsb' 0 8 }

/-- Two bytes side by side in a word are the 16-bit field they make (R73, R100). -/
theorem fromBe16_extract (w : BitVec 64) (k : Nat) : fromBe16 (w.extractLsb' (k + 8) 8) (w.extractLsb' k 8) = w.extractLsb' k 16 :=
  BitVec.extractLsb'_append_extractLsb'_eq_extractLsb' (by omega)

/-- HC.DECODE finds the fields of a header word where R100 puts them. -/
theorem hcDecode_headerWordBytes_append (w : BitVec 64) (trailing : List Byte) :
    hcDecode (headerWordBytes w ++ trailing) = .ok (wordHeader w) := by
  have htype : (w.extractLsb' 56 8).extractLsb' 4 4 = w.extractLsb' 60 4 := by
    apply BitVec.eq_of_toNat_eq
    simp only [BitVec.extractLsb'_toNat, Nat.shiftRight_eq_div_pow]
    omega
  simp [headerWordBytes, wordHeader, htype, ← fromBe16_extract]

/-- The datagram of a table word: its eight bytes and the zeros that its own header asks for (R107, R122). -/
theorem tableDatagram_eq {w : Nat} (hw : w < 2 ^ 64) :
    tableDatagram 64 w = headerWordBytes (BitVec.ofNat 64 w) ++
      List.replicate (wordHeader (BitVec.ofNat 64 w)).payloadBytes 0 := by
  have hdecode := hcDecode_headerWordBytes_append (BitVec.ofNat 64 w) []
  rw [List.append_nil] at hdecode
  simp only [tableDatagram, Nat.mod_eq_of_lt hw, hdecode]

/-- The number of payload bytes a header asks for makes its packet well-formed (R107, R119). -/
theorem toInstr_payloadBytes_wellFormed (h : Header) (b : Byte) :
    (h.toInstr (List.replicate h.payloadBytes b)).wellFormed = true := by
  rw [wellFormed_iff]
  intro hcode
  simp only [Header.toInstr, code_ofCode, pkt_ofCode, List.length_replicate] at hcode ⊢
  exact if_pos hcode

/-- A table word decodes to its header with zeros for payload. -/
theorem decodeTableWord_eq {w : Nat} (hw : w < 2 ^ 64) :
    decodeTableWord 64 w = some ((wordHeader (BitVec.ofNat 64 w)).toInstr
      (List.replicate (wordHeader (BitVec.ofNat 64 w)).payloadBytes 0)) := by
  rw [Machine.decodeTableWord_eq_some, tableDatagram_eq hw, decode_eq_ok]
  exact ⟨_, hcDecode_headerWordBytes_append _ _, rfl, toInstr_payloadBytes_wellFormed _ 0⟩

section
variable {w : Nat} (hw : w < 2 ^ 64)
include hw

/-- A slice of a header word in arithmetic. -/
theorem extractLsb'_ofNat_toNat (k n : Nat) : ((BitVec.ofNat 64 w).extractLsb' k n).toNat = w / 2 ^ k % 2 ^ n := by
  rw [BitVec.extractLsb'_toNat, Nat.shiftRight_eq_div_pow, BitVec.toNat_ofNat, Nat.mod_eq_of_lt hw]

/-- The mask of a row of the table selects the type code (R100, R122). -/
theorem wordHeader_type_toNat : (wordHeader (BitVec.ofNat 64 w)).type.toNat = w / 2 ^ 60 := by
  rw [wordHeader, extractLsb'_ofNat_toNat hw, Nat.mod_eq_of_lt (by omega)]

theorem wordHeader_length_toNat : (wordHeader (BitVec.ofNat 64 w)).length.toNat = w % 2 ^ 8 := by
  rw [wordHeader, extractLsb'_ofNat_toNat hw, pow_zero, Nat.div_one]

theorem wordHeader_payloadBytes :
    (wordHeader (BitVec.ofNat 64 w)).payloadBytes = if w / 2 ^ 60 = 3 ∨ w / 2 ^ 60 = 6 then w % 2 ^ 8 else 0 := by
  have htype (c : BitVec 4) : (wordHeader (BitVec.ofNat 64 w)).type = c ↔ w / 2 ^ 60 = c.toNat := by
    rw [← wordHeader_type_toNat hw, BitVec.toNat_inj]
  simp only [Header.payloadBytes, htype, wordHeader_length_toNat hw]
  rfl

end

/-! ## The statements -/

/-- Settles O2: HC.DECODE reads the header back, and header and payload make the packet. -/
theorem encodedPacketDecodesBack : Obligations.EncodedPacketDecodesBack := by
  unfold Obligations.EncodedPacketDecodesBack
  intro i hwf
  rw [encode, decode_eq_ok, drop_hcEncode_append]
  exact ⟨i.header, hcDecode_hcEncode_append _ _, toInstr_header i, hwf⟩

/-- Settles O3: the packet has the header and the trailing bytes that were parsed. -/
theorem decodedPacketEncodesBackUpToReservedNibble : Obligations.DecodedPacketEncodesBackUpToReservedNibble := by
  unfold Obligations.DecodedPacketEncodesBackUpToReservedNibble
  intro d i hd
  obtain ⟨h, hheader, rfl, hwf⟩ := decode_eq_ok.mp hd
  refine ⟨hwf, ?_⟩
  rw [encode, header_toInstr, pkt_toInstr_payload]
  exact hcEncode_of_hcDecode hheader

/-- Settles O5: the packet is the word's header with zeros for payload, and each field is a slice of the word. -/
theorem tableWordDecodesByMaskAndFields : Obligations.TableWordDecodesByMaskAndFields := by
  unfold Obligations.TableWordDecodesByMaskAndFields
  intro w hw
  refine ⟨_, decodeTableWord_eq hw, ?_⟩
  simp only [Header.toInstr, code_ofCode, pkt_ofCode]
  refine ⟨wordHeader_type_toNat hw, extractLsb'_ofNat_toNat hw 40 16, extractLsb'_ofNat_toNat hw 24 16,
    extractLsb'_ofNat_toNat hw 8 16, wordHeader_length_toNat hw, ?_⟩
  rw [wordHeader_payloadBytes hw]

/-- Settles O6: HC.PARSE evaluated on each of the six datagrams. -/
theorem sampleDatagramsDecode : Obligations.SampleDatagramsDecode := by
  unfold Obligations.SampleDatagramsDecode
  decide

end Sys2Proof

/-! # SND.FILL when the transfer is complete (spec/43_sliding_window_sender.md R221, R239) -/

namespace Sys2Proof.Machine

/-- SND.FILL takes its first arm when the base has reached the target, whatever the chunk (R221). -/
theorem opFill_run_complete {s : State} {now : Time} (chunk : Nat) (henabled : SndEnabled s .fill now)
    (hbase : s.ini.base = s.ini.target) : opFill now chunk s = .next (fillFin (s.begin.touch now)) := by
  rw [opFill, timed_run (by simp [Initiator.inPhase, henabled.enabled, henabled.inPhase]) henabled.clock]
  exact if_pos hbase

/-- The FIN arm, on the wire bytes of R114 and the register of R28. -/
theorem fillFin_eq (s : State) :
    fillFin s = { s with
      ini := { s.ini with conn := .closed, xferDone := true }
      out := { s.out with
        status := some .finSent
        tx := s.out.tx ++ [wire 0x5F s.ini.nextSeq 0 0 []]
        stats := s.out.stats ++ [.final s.ini.totalSent s.ini.initialSent s.ini.retransmits s.ini.peerDropValid
          (if s.ini.peerDropValid then some s.ini.peerDropPct else none)] }
      toRsp := s.toRsp ++ [wire 0x5F s.ini.nextSeq 0 0 []] } := by
  rw [fillFin, encode_mkFin]
  rfl

/-- Settles O32: the FIN arm runs, on outputs that the operation began empty. -/
theorem fillSendsFinWhenComplete : Obligations.FillSendsFinWhenComplete := by
  unfold Obligations.FillSendsFinWhenComplete
  intro s rest now chunk hs henabled hbase
  have henabled' : SndEnabled { s with script := rest } .fill now := ⟨henabled.enabled, henabled.inPhase, henabled.clock⟩
  rw [step_sndFill hs, opFill_run_complete chunk henabled' hbase, fillFin_eq]
  rfl

end Sys2Proof.Machine

/-! # What HC.DECODE and HC.PARSE answer on any bytes (spec/40_header_codec.md R141, R142, R145) -/

namespace Sys2Proof

/-! ## The strings that decode to a header: any reserved nibble, the other seven header bytes, any trailing bytes (R142) -/

/-- Byte 0 as transmitted is the type code above a nibble of ones (R103, R105). -/
theorem typeByte_eq_append (t : BitVec 4) : typeByte t = t ++ 0xF#4 := by
  revert t; decide

/-- The type code is the high nibble of byte 0 (R100, R102). -/
theorem extractLsb'_four_append (t n : BitVec 4) : BitVec.extractLsb' (n := 8) 4 4 (t ++ n) = t :=
  BitVec.extractLsb'_append_eq_left

/-- The reserved nibble is the low one (R100, R102). -/
theorem extractLsb'_zero_append (t n : BitVec 4) : BitVec.extractLsb' (n := 8) 0 4 (t ++ n) = n :=
  BitVec.extractLsb'_append_eq_right

/-- Forcing the reserved nibble to ones makes any byte 0 the transmitted one (R105). -/
theorem append_or_reserved (t n : BitVec 4) : (t ++ n) ||| 0x0F#8 = typeByte t := by
  rw [← typeByte_extract, extractLsb'_four_append]

/-- A byte is its two nibbles. -/
theorem nibbles_append (b : Byte) : b.extractLsb' 4 4 ++ b.extractLsb' 0 4 = b := by
  rw [BitVec.extractLsb'_append_extractLsb'_eq_extractLsb' (by rfl), BitVec.extractLsb'_eq_self]

theorem hcEncode_eq_cons (h : Header) : hcEncode h = typeByte h.type :: (hcEncode h).tail := rfl

/-- HC.DECODE discards the reserved nibble and does not look past byte 7 (R102, R105, R141). -/
theorem hcDecode_eq_ok {d : Datagram} {h : Header} :
    hcDecode d = .ok h ↔ ∃ (n : BitVec 4) (trailing : List Byte), d = (h.type ++ n) :: ((hcEncode h).tail ++ trailing) := by
  constructor
  · intro hd
    unfold hcDecode at hd
    split at hd
    next b0 _ _ _ _ _ _ _ trailing =>
      cases hd
      exact ⟨b0.extractLsb' 0 4, trailing, by simp [hcEncode, be16_fromBe16, nibbles_append]⟩
    next => cases hd
  · rintro ⟨n, trailing, rfl⟩
    simp [hcEncode, be16, extractLsb'_four_append]

theorem take_eight_of_header (b : Byte) (h : Header) (trailing : List Byte) :
    (b :: ((hcEncode h).tail ++ trailing)).take 8 = b :: (hcEncode h).tail := rfl

/-- Re-encoding gives back the first eight bytes exactly when their reserved nibble was the one that HC.ENCODE writes (R142). -/
theorem hcEncode_eq_take_iff {d : Datagram} {h : Header} (hd : hcDecode d = .ok h) :
    hcEncode h = d.take 8 ↔ (d.headD 0).extractLsb' 0 4 = 0xF#4 := by
  obtain ⟨n, trailing, rfl⟩ := hcDecode_eq_ok.mp hd
  rw [take_eight_of_header, hcEncode_eq_cons, List.tail_cons, List.cons.injEq, and_iff_left rfl, typeByte_eq_append,
    List.headD_cons, extractLsb'_zero_append]
  constructor
  · intro hbyte
    rw [← extractLsb'_zero_append h.type n, ← hbyte, extractLsb'_zero_append]
  · rintro rfl
    rfl

/-- Re-encoding forces the reserved nibble of the first eight bytes to ones (R105, R142). -/
theorem hcEncode_eq_or_reserved {d : Datagram} {h : Header} (hd : hcDecode d = .ok h) :
    hcEncode h = (d.headD 0 ||| 0x0F#8) :: (d.take 8).tail := by
  obtain ⟨n, trailing, rfl⟩ := hcDecode_eq_ok.mp hd
  rw [take_eight_of_header, List.headD_cons, List.tail_cons, append_or_reserved, ← hcEncode_eq_cons]

/-- The strings of eight bytes that decode to a header are one for each reserved nibble (R142). -/
theorem length_eq_eight_and_hcDecode_iff (h : Header) (d : Datagram) :
    (d.length = 8 ∧ hcDecode d = .ok h) ↔ ∃ n : BitVec 4, d = (h.type ++ n) :: (hcEncode h).tail := by
  rw [hcDecode_eq_ok]
  constructor
  · rintro ⟨hlen, n, trailing, rfl⟩
    have htrailing : trailing = [] := by simpa using hlen
    exact ⟨n, by rw [htrailing, List.append_nil]⟩
  · rintro ⟨n, rfl⟩
    exact ⟨rfl, n, [], by rw [List.append_nil]⟩

/-- Settles O1: the strings that decode to a header are known byte by byte, and HC.ENCODE writes the one of them with a nibble of ones. -/
theorem headerRoundTripAndSixteenPreimages : Obligations.HeaderRoundTripAndSixteenPreimages := by
  unfold Obligations.HeaderRoundTripAndSixteenPreimages
  refine ⟨fun h => ?_, fun d h hd => ⟨hcEncode_eq_take_iff hd, hcEncode_eq_or_reserved hd⟩, length_eq_eight_and_hcDecode_iff⟩
  simpa using hcDecode_hcEncode_append h []

/-! ## HC.PARSE, clause by clause (R145) -/

/-- HC.PARSE fails as HC.DECODE fails (R145). -/
theorem decode_of_short {d : Datagram} (hlen : d.length < 8) : decode d = .error .shortHeader := by
  rw [decode, hcDecode_error.mpr ⟨rfl, hlen⟩]

/-- Of a datagram with a header, HC.PARSE asks that its packet be well-formed (R119, R145). -/
theorem decode_of_header {d : Datagram} {h : Header} (hd : hcDecode d = .ok h) :
    decode d = if (h.toInstr (d.drop 8)).wellFormed then .ok (h.toInstr (d.drop 8)) else .error .lengthMismatch := by
  rw [decode, hd]

/-- The type code is byte 0 over 16 (R100, R145). -/
theorem typeNibble_toNat (b : Byte) : (b.extractLsb' 4 4).toNat = b.toNat / 16 := by
  rw [BitVec.extractLsb'_toNat, Nat.shiftRight_eq_div_pow]
  omega

/-- The condition on the trailing bytes, in the numbers of R145. -/
theorem toInstr_wellFormed_iff (h : Header) (trailing : List Byte) :
    (h.toInstr trailing).wellFormed = true ↔
      (h.type.toNat = 3 ∨ h.type.toNat = 6 → trailing.length = h.length.toNat) := by
  rw [wellFormed_iff, Header.toInstr, code_ofCode, pkt_ofCode, ← BitVec.toNat_inj, ← BitVec.toNat_inj]
  rfl

/-- Settles O4: HC.PARSE is HC.DECODE and the well-formedness of the packet, both in the numbers of R145. -/
theorem parseValidatesLengthThenReadsFields : Obligations.ParseValidatesLengthThenReadsFields := by
  unfold Obligations.ParseValidatesLengthThenReadsFields
  refine fun d => ⟨decode_of_short, ?_⟩
  rintro b0 b1 b2 b3 b4 b5 b6 b7 trailing rfl
  have hparse := decode_of_header (hcDecode_cons b0 b1 b2 b3 b4 b5 b6 b7 trailing)
  have hwf := toInstr_wellFormed_iff
    ⟨b0.extractLsb' 4 4, fromBe16 b1 b2, fromBe16 b3 b4, fromBe16 b5 b6, b7⟩ trailing
  rw [typeNibble_toNat] at hwf
  constructor
  · rintro ⟨htype, hlength⟩
    rw [hparse]
    exact if_neg fun h => hlength (hwf.mp h htype)
  · intro hlength
    refine ⟨_, hparse.trans (if_pos (hwf.mpr hlength)), ?_⟩
    rw [Header.toInstr, code_ofCode, pkt_ofCode]
    exact ⟨typeNibble_toNat b0, fromBe16_toNat b1 b2, fromBe16_toNat b3 b4, fromBe16_toNat b5 b6, rfl, rfl⟩

end Sys2Proof

/-! # The Timeout Controller, and the expiry of a handshake attempt (spec/41_timeout_controller.md R160 to R165,
spec/42_initiator_connection.md R193, R194) -/

namespace Sys2Proof.Machine

/-! ## The ascending sort of the samples (R162) -/

/-- Times are ordered totally. -/
theorem time_le_total : Std.Total (fun a b : Time => a ≤ b) := ⟨BitVec.le_total⟩

theorem time_le_trans : IsTrans Time (fun a b => a ≤ b) := ⟨fun _ _ _ => BitVec.le_trans⟩

theorem insertAscending_eq_orderedInsert (x : Time) (l : List Time) :
    insertAscending x l = l.orderedInsert (· ≤ ·) x := by
  induction l with
  | nil => rfl
  | cons y ys ih => rw [insertAscending, ih, List.orderedInsert_cons]

/-- The model's sort is Mathlib's insertion sort. -/
theorem sortAscending_eq_insertionSort (l : List Time) : sortAscending l = l.insertionSort (· ≤ ·) := by
  induction l with
  | nil => rfl
  | cons x xs ih => rw [sortAscending, ih, insertAscending_eq_orderedInsert, List.insertionSort_cons]

/-- Sorting rearranges the samples. -/
theorem sortAscending_perm (l : List Time) : (sortAscending l).Perm l := by
  rw [sortAscending_eq_insertionSort]
  exact List.perm_insertionSort _ l

theorem sortAscending_pairwise (l : List Time) : (sortAscending l).Pairwise (· ≤ ·) := by
  have := time_le_total
  have := time_le_trans
  rw [sortAscending_eq_insertionSort]
  exact List.pairwise_insertionSort _ l

/-! ## TC.RECOMPUTE (R162) -/

/-- With ten samples the timeout is recomputed. -/
theorem tcRecompute_of_length_eq {i : Initiator} (hten : i.samp.length = 10) :
    tcRecompute i = { i with rto := 5 * ((sortAscending i.samp).getD 5 0).toNat } := if_pos hten

/-- With any other number of samples nothing changes. -/
theorem tcRecompute_of_length_ne {i : Initiator} (hten : i.samp.length ≠ 10) : tcRecompute i = i := if_neg hten

/-! ## An expired attempt (R192 to R194) -/

/-- INI.HS_STEP at an expired step: a retry or the failure, whatever a consumed datagram would do (R192). -/
theorem hsStep_expired {s : State} {now : Time} {isn2 : Seq} (h : HsExpired s now isn2) (rx : Option (State → State)) :
    hsStep now isn2 rx s = .next (if s.ini.attempts.toNat < 5 then hsRetry now isn2 (s.begin.touch now)
      else hsFail (s.begin.touch now)) := by
  have hstarted : ¬now < s.ini.synTime := BitVec.not_lt.mpr h.started
  have hexpired : tcExpired s.ini s.ini.synTime now = true := tcExpired_of_lt h.expired
  rw [hsStep, timed_run (beq_iff_eq.mpr h.enabled) h.clock]
  simp only [State.touch_ini, State.begin_ini, hstarted, hexpired, if_false, if_true]
  exact (apply_ite Host.Outcome.next _ _ _).symm

/-- The retry, on the wire bytes of R108 and with the doubled timeout (R164, R193). -/
theorem hsRetry_eq (now : Time) (isn2 : Seq) (s : State) :
    hsRetry now isn2 s = { s with
      ini := { s.ini with rto := 2 * s.ini.rto, attempts := s.ini.attempts + 1, isn := isn2, synTime := now }
      out := { s.out with status := some .hsRetry, tx := s.out.tx ++ [wire 0x1F isn2 0 0 []] }
      toRsp := s.toRsp ++ [wire 0x1F isn2 0 0 []] } := by
  rw [hsRetry, encode_mkSyn]
  rfl

/-! ## The statements -/

/-- Settles O26: the step is INI.HS_STEP whatever is offered, and at an expired step it takes one of its first two arms. -/
theorem expiredAttemptRetriesOrFails : Obligations.ExpiredAttemptRetriesOrFails := by
  unfold Obligations.ExpiredAttemptRetriesOrFails
  intro s rest now offer isn2 hs h
  obtain ⟨rx, hstep⟩ := step_iniHsStep hs
  have hexpired : HsExpired { s with script := rest, rxOp := .hsStep now isn2 } now isn2 :=
    ⟨h.port, h.enabled, h.clock, h.started, h.expired⟩
  rw [hstep, hsStep_expired hexpired]
  constructor
  · intro hleft
    rw [if_pos hleft, hsRetry_eq]
    rfl
  · intro hfifth
    rw [if_neg (Nat.not_lt.mpr hfifth.ge)]
    exact ⟨Config.freeRto s.freeCount, s.freeCount + 1, rfl⟩

/-- Settles O43: the ascending arrangement is the model's sort. -/
theorem recomputeTakesSixthSmallest : Obligations.RecomputeTakesSixthSmallest := by
  unfold Obligations.RecomputeTakesSixthSmallest
  exact fun i => ⟨fun hten => ⟨sortAscending i.samp, sortAscending_perm _, sortAscending_pairwise _,
    tcRecompute_of_length_eq hten⟩, tcRecompute_of_length_ne⟩

/-- Settles O44: the last ten of the samples are what is left once the excess over ten is dropped. -/
theorem recordSampleKeepsTheLastTen : Obligations.RecordSampleKeepsTheLastTen := by
  unfold Obligations.RecordSampleKeepsTheLastTen
  intro i rtt hlen
  rw [tcRecordSample_eq rtt hlen, List.rtake, List.length_append, List.length_singleton]

/-- Settles O45: three register writes and reads, and the comparison of TC.EXPIRED. -/
theorem timeoutRegisterOperations : Obligations.TimeoutRegisterOperations := by
  unfold Obligations.TimeoutRegisterOperations
  exact fun p i start now => ⟨rfl, rfl, rfl, fun _ => tcExpired_iff⟩

end Sys2Proof.Machine

/-! # The initiator's connection: what INI.HS_STEP does with a datagram, the run against a silent responder, and the operations that
change the connection (spec/42_initiator_connection.md R190 to R197, spec/70_reset_and_hazards.md R350) -/

namespace Sys2Proof.Machine

/-! ## INI.HS_STEP, whatever it is offered (R192) -/

/-- What a packet does in INI.HS_STEP: a SYN_ACK has an arm, every other type is ignored (R195, R196). -/
def hsPacket : Instr → State → State
  | .synAck p => hsSynAck p.sequence p.ack
  | _ => fun s => s.setStatus .ignored

/-- What a consumed datagram does in INI.HS_STEP (R192, R311). -/
def hsDatagram (d : Datagram) : State → State :=
  match decode d with
  | .ok i => hsPacket i
  | .error _ => fun s => s.setStatus .malformed

theorem hsPacket_of_not_synAck {i : Instr} (hi : ∀ p, i ≠ .synAck p) : hsPacket i = fun s => s.setStatus .ignored := by
  cases i with
  | synAck p => exact absurd rfl (hi p)
  | _ => rfl

theorem hsDatagram_of_ok {d : Datagram} {i : Instr} (hd : decode d = .ok i) : hsDatagram d = hsPacket i := by
  simp only [hsDatagram, hd]

theorem hsDatagram_of_error {d : Datagram} {why : Malformed} (hd : decode d = .error why) :
    hsDatagram d = fun s => s.setStatus .malformed := by
  simp only [hsDatagram, hd]

/-- A packet at the port of INI.HS_STEP. -/
theorem exec_hsStep (i : Instr) {s : State} {now : Time} {isn2 : Seq} (hport : s.rxOp = .hsStep now isn2) :
    exec i s = hsStep now isn2 (some (hsPacket i)) s := by
  cases i <;> exact receive_hsStep (some _) hport

/-- The step of INI.HS_STEP, with the handling of the datagram that it is offered. -/
theorem step_iniHsStep_eq {s : State} {rest : List Action} {now : Time} {offer : Bool} {isn2 : Seq}
    (hs : s.script = .op (.iniHsStep now offer isn2) :: rest) :
    step s = hsStep now isn2 ((offered (.iniHsStep now offer isn2) s).map hsDatagram)
      { s with script := rest, rxOp := .hsStep now isn2 } := by
  cases hoffer : offered (.iniHsStep now offer isn2) s with
  | none => exact step_none hs hoffer
  | some d =>
    rw [Option.map_some]
    cases hd : decode d with
    | ok i =>
      rw [step_decoded hs hoffer hd, hsDatagram_of_ok hd]
      exact exec_hsStep i rfl
    | error why =>
      rw [step_malformed hs hoffer hd, hsDatagram_of_error hd]
      rfl

/-- INI.HS_STEP is offered a datagram when the environment offers one and one waits (R75, R83). -/
theorem offered_iniHsStep_eq_some {now : Time} {offer : Bool} {isn2 : Seq} {s : State} {d : Datagram} :
    offered (.iniHsStep now offer isn2) s = some d ↔ offer = true ∧ ∃ q, s.iniQueue = d :: q := by
  simp only [offered, Option.ite_none_right_eq_some, List.head?_eq_some_iff]

theorem offered_iniHsStep_eq_none {now : Time} {offer : Bool} {isn2 : Seq} {s : State} (h : offer = false ∨ s.iniQueue = []) :
    offered (.iniHsStep now offer isn2) s = none := by
  obtain rfl | hq := h
  · rfl
  · simp [offered, hq]

/-! ## An attempt that has not expired (R192, R195, R196) -/

/-- INI.HS_STEP waits when nothing is offered while the attempt has not expired (R192). -/
theorem hsStep_wait {s : State} {now : Time} {isn2 : Seq} (h : HsOpen s now isn2) :
    hsStep now isn2 none s = .next ((s.begin.touch now).setStatus .hsWait) := by
  have hstarted : ¬now < s.ini.synTime := BitVec.not_lt.mpr h.started
  have hlive : tcExpired s.ini s.ini.synTime now = false := tcExpired_of_le h.live
  rw [hsStep, timed_run (beq_iff_eq.mpr h.enabled) h.clock]
  simp only [State.touch_ini, State.begin_ini, hstarted, hlive, if_false, Bool.false_eq_true]

/-- A packet is consumed while the attempt has not expired (R192). -/
theorem exec_hsOpen (i : Instr) {s : State} {now : Time} {isn2 : Seq} (h : HsOpen s now isn2) :
    exec i s = .next (hsPacket i (s.begin.touch now).popIni) := by
  rw [exec_hsStep i h.port, hsStep_open h]

/-- A SYN_ACK that acknowledges the latest SYN, with the handshake ACK on the wire bytes of R110 (R195). -/
theorem hsSynAck_of_ack_eq {sequence ack : Seq} {s : State} (hack : ack = s.ini.isn + 1) :
    hsSynAck sequence ack s = { s with
      ini := s.ini.establish sequence
      out := { s.out with status := some .hsEstablished, tx := s.out.tx ++ [wire 0x4F 0 (sequence + 1) 0 []] }
      toRsp := s.toRsp ++ [wire 0x4F 0 (sequence + 1) 0 []] } := by
  rw [hsSynAck, if_pos hack, encode_mkHandshakeAck]
  rfl

/-- A SYN_ACK that acknowledges anything else (R196). -/
theorem hsSynAck_of_ack_ne {sequence ack : Seq} {s : State} (hack : ack ≠ s.ini.isn + 1) :
    hsSynAck sequence ack s = s.setStatus .ignored := if_neg hack

/-! ## The expiries of a silent responder (R193, R194, R197) -/

/-- Attempt number `k` of a handshake is under way with one tick a millisecond, its SYN sent at `start`; what is in flight to the
responder, and the script still to come. -/
structure AttemptAt (k : Nat) (start : Time) (inFlight : List Datagram) (script : List Action) (s : State) : Prop where
  conn : s.ini.conn = .synSent
  rto : s.ini.rto = 300 * 2 ^ (k - 1)
  attempts : s.ini.attempts.toNat = k
  synTime : s.ini.synTime = start
  lastNow : s.lastNow = start
  toRsp : s.toRsp = inFlight
  script : s.script = script

/-- INI.CONNECT begins the first attempt (R191). -/
theorem step_connect_attemptAt {s : State} {rest : List Action} {now : Time} {isn : Seq}
    (hs : s.script = .op (.iniConnect now isn) :: rest) (hclosed : s.ini.conn = .closed) (hnow : s.lastNow ≤ now)
    (hsrc : srcSuffices s) (hticks : s.par.ticksPerMs = 1) :
    ∃ t, step s = .next t ∧ AttemptAt 1 now (s.toRsp ++ [wire 0x1F isn 0 0 []]) rest t :=
  ⟨_, connectStartsASession s rest now isn hs hclosed hnow hsrc, rfl, by simp [hticks], rfl, rfl, rfl, rfl, rfl⟩

section
variable {k : Nat} {start now : Time} {inFlight : List Datagram} {rest : List Action} {isn2 : Seq} {s : State}

/-- At the first tick past the timeout, and at every later one, the attempt has expired (R165). -/
theorem AttemptAt.expired {script : List Action} (h : AttemptAt k start inFlight script s)
    (hnow : start.toNat + 300 * 2 ^ (k - 1) < now.toNat) : HsExpired { s with rxOp := .hsStep now isn2 } now isn2 where
  port := rfl
  enabled := h.conn
  clock := by rw [h.lastNow, BitVec.le_def]; omega
  started := by rw [h.synTime, BitVec.le_def]; omega
  expired := by rw [h.rto, h.synTime]; omega

/-- The expiry of an attempt before the fifth begins the next one with a new SYN and a doubled timeout (R193). -/
theorem AttemptAt.retries {offer : Bool} (h : AttemptAt k start inFlight (.op (.iniHsStep now offer isn2) :: rest) s) (hlow : 1 ≤ k)
    (hhigh : k < 5) (hnow : start.toNat + 300 * 2 ^ (k - 1) < now.toNat) :
    ∃ t, step s = .next t ∧ AttemptAt (k + 1) now (inFlight ++ [wire 0x1F isn2 0 0 []]) rest t := by
  obtain ⟨hretry, -⟩ := expiredAttemptRetriesOrFails s rest now offer isn2 h.script (h.expired hnow)
  refine ⟨_, hretry (by rw [h.attempts]; exact hhigh), h.conn, ?rto, ?attempts, rfl, rfl, by rw [h.toRsp], rfl⟩
  case rto =>
    have hpow : 2 ^ k = 2 * 2 ^ (k - 1) := by rw [← pow_succ', Nat.sub_add_cancel hlow]
    simp only [h.rto, Nat.add_sub_cancel, hpow]
    omega
  case attempts =>
    have hnowrap : s.ini.attempts.toNat + 1 < 2 ^ 3 := by rw [h.attempts]; omega
    rw [BitVec.toNat_add_of_lt hnowrap, h.attempts]
    rfl

/-- The expiry of the fifth attempt is the failure of the handshake (R194). -/
theorem AttemptAt.fails {offer : Bool} (h : AttemptAt 5 start inFlight (.op (.iniHsStep now offer isn2) :: rest) s)
    (hnow : start.toNat + 300 * 2 ^ (5 - 1) < now.toNat) :
    ∃ t, step s = .next t ∧ t.ini.conn = .closed ∧ t.ini.hsFailed = true ∧ t.out = onlyStatus .hsFailed ∧ t.toRsp = inFlight := by
  obtain ⟨-, hfail⟩ := expiredAttemptRetriesOrFails s rest now offer isn2 h.script (h.expired hnow)
  obtain ⟨rto, count, hstep⟩ := hfail h.attempts
  exact ⟨_, hstep, rfl, rfl, rfl, h.toRsp⟩

end

/-- A run goes on with the step of the state that it has reached. -/
theorem run_succ {M : Host.Core} {k : Nat} {s t : M.State} (h : M.run k s = .next t) : M.run (k + 1) s = M.step t := by
  induction k generalizing s with
  | zero =>
    cases h
    rw [Host.Core.run]
    cases M.step t <;> rfl
  | succ k ih =>
    rw [Host.Core.run] at h ⊢
    cases hstep : M.step s with
    | next u => rw [hstep] at h; exact ih h
    | fault f => rw [hstep] at h; cases h
    | refused why => rw [hstep] at h; cases h

/-! ## Operations and the connection (R190, R350) -/

/-- In INI.HS_STEP a datagram changes the connection only when it is a SYN_ACK that acknowledges the latest SYN (R195). -/
theorem hsDatagram_conn {d : Datagram} {s : State} (h : (hsDatagram d s).ini.conn ≠ s.ini.conn) :
    (hsDatagram d s).ini.conn = .established ∧ ∃ p, decode d = .ok (.synAck p) ∧ p.ack = s.ini.isn + 1 := by
  cases hd : decode d with
  | error why => exact absurd (by rw [hsDatagram_of_error hd]; rfl) h
  | ok i =>
    rw [hsDatagram_of_ok hd] at h ⊢
    cases i with
    | synAck p =>
      by_cases hack : p.ack = s.ini.isn + 1
      · exact ⟨by rw [hsPacket, hsSynAck_of_ack_eq hack]; rfl, p, rfl, hack⟩
      · exact absurd (by rw [hsPacket, hsSynAck_of_ack_ne hack]; rfl) h
    | _ => exact absurd rfl h

/-- INI.HS_STEP changes the connection only by the acceptance of a SYN_ACK or at the expiry of the last attempt (R194, R195). -/
theorem step_iniHsStep_conn {s t : State} {rest : List Action} {now : Time} {offer : Bool} {isn2 : Seq}
    (hs : s.script = .op (.iniHsStep now offer isn2) :: rest) (h : step s = .next t) (hne : t.ini.conn ≠ s.ini.conn) :
    s.ini.conn = .synSent ∧
      ((offer = true ∧ ∃ d q p, s.iniQueue = d :: q ∧ decode d = .ok (.synAck p) ∧ p.ack = s.ini.isn + 1 ∧
          t.ini.conn = .established) ∨
       (s.ini.synTime ≤ now ∧ s.ini.rto < now.toNat - s.ini.synTime.toNat ∧ 5 ≤ s.ini.attempts.toNat ∧
          t.ini.conn = .closed ∧ t.ini.hsFailed = true)) := by
  rw [step_iniHsStep_eq hs] at h
  obtain ⟨hconn, -, hstarted, ⟨-, -, rfl⟩ | ⟨hexpired, hfifth, rfl⟩ | ⟨-, -, rfl⟩ | ⟨-, f, hf, rfl⟩⟩ := hsStep_next h
  · exact absurd rfl hne
  · exact ⟨hconn, .inr ⟨hstarted, hexpired, hfifth, rfl, rfl⟩⟩
  · exact absurd rfl hne
  · obtain ⟨d, hoffer, rfl⟩ := Option.map_eq_some_iff.mp hf
    obtain ⟨htrue, q, hq⟩ := offered_iniHsStep_eq_some.mp hoffer
    obtain ⟨hnew, p, hd, hack⟩ := hsDatagram_conn hne
    exact ⟨hconn, .inl ⟨htrue, d, q, p, hq, hd, hack, hnew⟩⟩

/-- SND.FILL changes the connection only at the end of the transfer (R221). -/
theorem opFill_conn {s t : State} {now : Time} {chunk : Nat} (h : opFill now chunk s = .next t) (hne : t.ini.conn ≠ s.ini.conn) :
    s.ini.base = s.ini.target ∧ s.ini.conn = .established ∧ t.ini.conn = .closed ∧ t.ini.xferDone = true := by
  obtain ⟨hconn, -, -, ⟨hbase, rfl⟩ | ⟨-, -, -, hsend⟩ | ⟨-, -, rfl⟩⟩ := opFill_next h
  · exact ⟨hbase, hconn, rfl, rfl⟩
  · obtain ⟨-, -, -, rfl⟩ := fillSend_next hsend
    exact absurd (Initiator.startTimer_conn _ now) hne
  · exact absurd rfl hne

theorem recordAll_conn (l : List Time) (i : Initiator) : (recordAll l i).conn = i.conn := by
  induction l generalizing i with
  | nil => rfl
  | cons rtt rest ih =>
    rw [recordAll, ih, tcRecordSample]
    split <;> rfl

theorem advanceBase_conn (n : Nat) (i : Initiator) : (advanceBase n i).conn = i.conn := by
  induction n generalizing i with
  | zero => rfl
  | succ n ih =>
    rw [advanceBase]
    split
    · rfl
    · rw [ih]

theorem tcRecompute_conn (i : Initiator) : (tcRecompute i).conn = i.conn := by
  unfold tcRecompute
  split <;> rfl

theorem processAck_conn (i : Initiator) (ack : Seq) (now : Time) : (i.processAck ack now).conn = i.conn := by
  rw [Initiator.processAck, Initiator.timerAfterAck_conn, advanceBase_conn, Initiator.markAck]
  split
  · exact recordAll_conn _ i
  · rw [tcRecompute_conn]
    exact recordAll_conn _ i

theorem RecvMove.conn {i j : Initiator} {now : Time} (h : RecvMove i now j) : j.conn = i.conn := by
  cases h with
  | keep => rfl
  | latch pct => rfl
  | ack ack _ => exact processAck_conn i ack now

/-- No datagram changes the connection in SND.RECV (R226 to R229). -/
theorem runOp_sndRecv_conn {s t : State} {now : Time} {offer : Bool} (h : runOp (.sndRecv now offer) s = .next t) :
    t.ini.conn = s.ini.conn := by
  obtain ⟨rx, hmoves, hrun⟩ := runOp_receive_of malformed_moves exec_moves (o := .sndRecv now offer) (s := s) fun _ => rfl
  obtain ⟨-, -, -, ⟨-, rfl⟩ | ⟨f, hf, hnext⟩⟩ := sndRecv_next (hrun.symm.trans h)
  · rfl
  · obtain ⟨handlers, hmem, rfl⟩ := Option.map_eq_some_iff.mp hf
    exact ((hmoves handlers hmem).snd hnext).conn

theorem opTchk_conn {s t : State} {now : Time} (h : opTchk now s = .next t) : t.ini.conn = s.ini.conn := by
  obtain ⟨-, -, -, ⟨-, -, -, rfl⟩ | rfl⟩ := opTchk_next h
  · rw [emitRaw_eq, Initiator.retransmitAll, countRetransmits_eq]
    rfl
  · rfl

/-- A step that changes the connection runs an operation of the script (R33, R75). -/
theorem step_conn_ne {s t : State} (h : step s = .next t) (hne : t.ini.conn ≠ s.ini.conn) :
    ∃ o rest, s.script = .op o :: rest ∧ runOp o { s with script := rest } = .next t := by
  cases hs : s.script with
  | nil =>
    rw [step, hs] at h
    cases h
    exact absurd rfl hne
  | cons a rest =>
    cases a with
    | op o => exact ⟨o, rest, rfl, (step_op hs).symm.trans h⟩
    | env e =>
      rw [step_env hs] at h
      cases h
      obtain ⟨hini, -⟩ := runEnv_frame e { s with script := rest }
      exact absurd (congrArg Initiator.conn hini) hne

/-! ## The statements -/

/-- Settles O27: the packet is consumed, and the comparison with the latest SYN decides which arm runs. -/
theorem synAckEstablishesOrIsIgnored : Obligations.SynAckEstablishesOrIsIgnored := by
  unfold Obligations.SynAckEstablishesOrIsIgnored
  intro p s now isn2 h
  rw [exec_hsOpen _ h, hsPacket]
  constructor
  · intro hack
    exact congrArg Host.Outcome.next (hsSynAck_of_ack_eq hack)
  · intro hack
    exact congrArg Host.Outcome.next (hsSynAck_of_ack_ne hack)

/-- Settles O28: the packet is consumed, and no other type has an arm. -/
theorem handshakeIgnoresEveryOtherType : Obligations.HandshakeIgnoresEveryOtherType := by
  unfold Obligations.HandshakeIgnoresEveryOtherType
  intro i s now isn2 h hi
  rw [exec_hsOpen i h, hsPacket_of_not_synAck hi]
  rfl

/-- Settles O29: the step is INI.HS_STEP with no datagram, or with one that does not parse. -/
theorem handshakeWaitsOrDiscardsMalformed : Obligations.HandshakeWaitsOrDiscardsMalformed := by
  unfold Obligations.HandshakeWaitsOrDiscardsMalformed
  intro s rest now offer isn2 hs h
  have hopen : HsOpen { s with script := rest, rxOp := .hsStep now isn2 } now isn2 :=
    ⟨h.port, h.enabled, h.clock, h.started, h.live⟩
  rw [step_iniHsStep_eq hs]
  constructor
  · intro hnone
    rw [offered_iniHsStep_eq_none hnone, Option.map_none, hsStep_wait hopen]
    rfl
  · intro d q why hoffer hq hd
    rw [offered_iniHsStep_eq_some.mpr ⟨hoffer, q, hq⟩, Option.map_some, hsStep_open hopen, hsDatagram_of_error hd]
    obtain rfl : s.iniQueue.tail = q := congrArg List.tail hq
    rfl

/-- Settles O30: each step meets the expiry of the attempt before it, five attempts in a row. -/
theorem silentResponderMeansFiveSynsThenFailure : Obligations.SilentResponderMeansFiveSynsThenFailure := by
  unfold Obligations.SilentResponderMeansFiveSynsThenFailure
  intro s t0 a b c d e z hclosed hnow hsrc hticks hfits hs
  obtain ⟨s1, hstep1, h1⟩ := step_connect_attemptAt hs hclosed hnow hsrc hticks
  obtain ⟨s2, hstep2, h2⟩ := h1.retries (by decide) (by decide) (by bv_omega)
  obtain ⟨s3, hstep3, h3⟩ := h2.retries (by decide) (by decide) (by bv_omega)
  obtain ⟨s4, hstep4, h4⟩ := h3.retries (by decide) (by decide) (by bv_omega)
  obtain ⟨s5, hstep5, h5⟩ := h4.retries (by decide) (by decide) (by bv_omega)
  obtain ⟨s6, hstep6, hconn, hfailed, hout, hsent⟩ := h5.fails (by bv_omega)
  have hrun1 : Host.Core.run core 1 s = .next s1 := (run_succ rfl).trans hstep1
  have hrun2 := (run_succ hrun1).trans hstep2
  have hrun3 := (run_succ hrun2).trans hstep3
  have hrun4 := (run_succ hrun3).trans hstep4
  have hrun5 := (run_succ hrun4).trans hstep5
  refine ⟨fun k hlow hhigh => ?attempts, s6, (run_succ hrun5).trans hstep6, hconn, hfailed, hout, by simpa using hsent⟩
  case attempts =>
    interval_cases k
    · exact ⟨s1, hrun1, h1.conn, h1.rto, h1.attempts⟩
    · exact ⟨s2, hrun2, h2.conn, h2.rto, h2.attempts⟩
    · exact ⟨s3, hrun3, h3.conn, h3.rto, h3.attempts⟩
    · exact ⟨s4, hrun4, h4.conn, h4.rto, h4.attempts⟩
    · exact ⟨s5, hrun5, h5.conn, h5.rto, h5.attempts⟩

/-- Settles O31: the operation that ran, and the arm of it that writes the connection. -/
theorem connectionChangesOnlyAsListed : Obligations.ConnectionChangesOnlyAsListed := by
  unfold Obligations.ConnectionChangesOnlyAsListed
  intro s t hstep hne
  obtain ⟨o, rest, hs, hrun⟩ := step_conn_ne hstep hne
  refine ⟨o, rest, hs, ?_⟩
  cases o with
  | iniReset =>
    cases hrun
    exact .inl ⟨rfl, rfl⟩
  | iniConnect now isn =>
    obtain ⟨hconn, -, -, rfl⟩ := opConnect_next hrun
    exact .inr (.inl ⟨⟨now, isn, rfl⟩, hconn, rfl⟩)
  | iniHsStep now offer isn2 =>
    obtain ⟨hconn, ⟨hoffer, d, q, p, hq, hd, hack, hnew⟩ | ⟨hstarted, hexpired, hfifth, hnew, hfailed⟩⟩ :=
      step_iniHsStep_conn hs hstep hne
    · exact .inr (.inr (.inl ⟨⟨now, isn2, d, q, p, by rw [hoffer], hq, hd, hack⟩, hconn, hnew⟩))
    · exact .inr (.inr (.inr (.inl ⟨⟨now, offer, isn2, rfl, hstarted, hexpired⟩, hfifth, hconn, hnew, hfailed⟩)))
  | sndFill now chunk =>
    obtain ⟨hbase, hconn, hnew, hdone⟩ := opFill_conn hrun hne
    exact .inr (.inr (.inr (.inr ⟨⟨now, chunk, rfl⟩, hbase, hconn, hnew, hdone⟩)))
  | iniCfgWrite target =>
    obtain ⟨-, rfl⟩ := opIniCfgWrite_next hrun
    exact absurd rfl hne
  | sndRecv now offer => exact absurd (runOp_sndRecv_conn hrun) hne
  | sndTchk now => exact absurd (opTchk_conn hrun) hne
  | rspReset | rspCfgWrite | rspRx | hcEncode | hcDecode | hcParse =>
    exact absurd (congrArg Initiator.conn ((runOp_frame hrun).ini rfl)) hne

end Sys2Proof.Machine

/-! # The sliding-window sender: the arms of SND.FILL that do not end the transfer, what SND.RECV does with each datagram but an ACK
above 0, and SND.TCHK (spec/43_sliding_window_sender.md R220 to R234) -/

namespace Sys2Proof.Machine

/-! ## Enabled sender operations (R220) -/

theorem SndEnabled.inPhase_eq_true {s : State} {p : Phase} {now : Time} (h : SndEnabled s p now) : s.ini.inPhase p = true := by
  simp [Initiator.inPhase, h.enabled, h.inPhase]

/-- Whether a sender operation is enabled does not depend on the script. -/
theorem SndEnabled.withScript {s : State} {p : Phase} {now : Time} (h : SndEnabled s p now) (script : List Action) :
    SndEnabled { s with script := script } p now := ⟨h.enabled, h.inPhase, h.clock⟩

/-- An enabled SND.RECV is open to a datagram once its inputs are latched (R226). -/
theorem SndEnabled.sndOpen {s : State} {now : Time} (h : SndEnabled s .recv now) (script : List Action) :
    SndOpen { s with script := script, rxOp := .sndRecv now } now := ⟨rfl, h.enabled, h.inPhase, h.clock⟩

/-! ## SND.FILL (R222 to R225) -/

/-- An enabled SND.FILL chooses among its three arms (R318). -/
theorem opFill_enabled {s : State} {now : Time} (chunk : Nat) (h : SndEnabled s .fill now) :
    opFill now chunk s =
      if s.ini.base = s.ini.target then .next (fillFin (s.begin.touch now))
      else if s.ini.nextSeq < s.ini.target ∧ s.ini.bytesInFlight.toNat < 400 then fillSend now chunk (s.begin.touch now)
      else .next (fillClosed (s.begin.touch now)) := by
  rw [opFill, timed_run h.inPhase_eq_true h.clock]
  rfl

/-- SND.FILL sends while packets and window are left (R222). -/
theorem opFill_run_send {s : State} {now : Time} (chunk : Nat) (h : SndEnabled s .fill now) (hbase : s.ini.base < s.ini.target)
    (hnext : s.ini.nextSeq < s.ini.target) (hroom : s.ini.bytesInFlight.toNat < 400) :
    opFill now chunk s = fillSend now chunk (s.begin.touch now) := by
  rw [opFill_enabled chunk h, if_neg (BitVec.ne_of_lt hbase), if_pos ⟨hnext, hroom⟩]

/-- SND.FILL does not send once every packet is assigned or the window is full (R223). -/
theorem opFill_run_closed {s : State} {now : Time} (chunk : Nat) (h : SndEnabled s .fill now) (hbase : s.ini.base < s.ini.target)
    (hclosed : s.ini.nextSeq = s.ini.target ∨ s.ini.bytesInFlight = 400) :
    opFill now chunk s = .next (fillClosed (s.begin.touch now)) := by
  have hnot : ¬(s.ini.nextSeq < s.ini.target ∧ s.ini.bytesInFlight.toNat < 400) := by
    rintro ⟨hnext, hroom⟩
    obtain hall | hfull := hclosed
    · exact BitVec.ne_of_lt hnext hall
    · simp [hfull] at hroom
  rw [opFill_enabled chunk h, if_neg (BitVec.ne_of_lt hbase), if_neg hnot]

/-- The Initiator unit after one packet is sent, register by register, in every state (R222). -/
theorem Initiator.sendNew_eq (i : Initiator) (now : Time) (payload : List Byte) :
    i.sendNew now payload = { i with
      pend := putBy Pending.key (newPending i now payload) i.pend
      nextSeq := i.nextSeq + 1
      bytesInFlight := BitVec.ofNat 9 (i.bytesInFlight.toNat + payload.length)
      timerRunning := true
      timerStart := if i.timerRunning then i.timerStart else now
      initialSent := i.initialSent + 1
      totalSent := i.totalSent + 1 } := by
  have hbytes : i.bytesInFlight + BitVec.ofNat 9 payload.length = BitVec.ofNat 9 (i.bytesInFlight.toNat + payload.length) := by
    simp [BitVec.ofNat_add]
  cases hrun : i.timerRunning <;> simp [Initiator.sendNew, Initiator.startTimer, Initiator.countInitial, hbytes, hrun]

/-- The "send one packet" arm, for a draw in its range and a slice within the memory: the payload is the slice (R222, R224, R225). -/
theorem fillSend_run {s : State} {now : Time} {chunk size : Nat} {payload : List Byte} (hlow : 40 ≤ chunk) (hhigh : chunk ≤ 80)
    (hsize : size = s.ini.chunkSize chunk) (hfits : s.ini.sliceStart + size ≤ s.srcLen)
    (hpayload : payload = s.src.slice s.ini.sliceStart size) :
    fillSend now chunk s =
      .next (((s.setIni (s.ini.sendNew now payload)).emitTx (encode (mkData s.ini.nextSeq payload))).setStatus .sent) := by
  subst hsize hpayload
  have hrange : chunkInRange chunk = true := by simp [chunkInRange, hlow, hhigh]
  rw [fillSend, if_pos hrange]
  exact if_pos hfits

/-- The entry of a new packet, on the wire bytes of R112 (R222, R225). -/
theorem newPending_eq (i : Initiator) (now : Time) (payload : List Byte) :
    newPending i now payload =
      { seq := i.nextSeq, raw := wire 0x3F i.nextSeq 0 (BitVec.ofNat 8 payload.length) payload,
        size := BitVec.ofNat 7 payload.length, start := BitVec.ofNat 32 (40 * i.nextSeq.toNat),
        stop := BitVec.ofNat 32 (40 * i.nextSeq.toNat + payload.length), sendTime := now, acked := false, retries := 0 } := by
  rw [newPending, encode_mkData]
  rfl

/-! ## SND.RECV, whatever it is offered (R226 to R229) -/

/-- What a packet does in SND.RECV: an ACK and a CONFIG have an arm each, every other type is ignored (R227 to R229). -/
def sndPacket : Instr → Time → State → Result
  | .ack p => sndAck p.ack
  | .config p => fun _ s => .next (sndConfig p s)
  | _ => fun _ s => .next (s.setStatus .ignored)

/-- What a consumed datagram does in SND.RECV (R226, R311). -/
def sndDatagram (d : Datagram) : Time → State → Result :=
  match decode d with
  | .ok i => sndPacket i
  | .error _ => fun _ s => .next (s.setStatus .malformed)

theorem sndDatagram_of_ok {d : Datagram} {i : Instr} (hd : decode d = .ok i) : sndDatagram d = sndPacket i := by
  simp only [sndDatagram, hd]

theorem sndDatagram_of_error {d : Datagram} {why : Malformed} (hd : decode d = .error why) :
    sndDatagram d = fun _ s => .next (s.setStatus .malformed) := by
  simp only [sndDatagram, hd]

/-- Everything but a CONFIG and an ACK above 0 is ignored (R229). -/
theorem sndPacket_ignored {i : Instr} (hconfig : ∀ p, i ≠ .config p) (hack : ∀ p, i = .ack p → p.ack = 0) (now : Time) (s : State) :
    sndPacket i now s = .next (s.setStatus .ignored) := by
  cases i with
  | config p => exact absurd rfl (hconfig p)
  | ack p =>
    have hzero : ¬0 < p.ack := by simp [hack p rfl]
    exact if_neg hzero
  | _ => rfl

/-- A CONFIG that carries a byte has it latched as found (R228). -/
theorem sndConfig_cons {p : Pkt} {pct : Byte} {more : List Byte} (hwf : (Instr.config p).wellFormed = true)
    (hpayload : p.payload = pct :: more) (s : State) :
    sndConfig p s = (s.setIni (s.ini.latchDrop pct)).setStatus .configLatched := by
  have hlen : p.payload.length = p.length.toNat := beq_iff_eq.mp hwf
  have hbyte : 1 ≤ p.length.toNat := by simp [← hlen, hpayload]
  simp only [sndConfig, hpayload, if_pos hbyte]

/-- A CONFIG without a byte is ignored (R228). -/
theorem sndConfig_nil {p : Pkt} (hpayload : p.payload = []) (s : State) : sndConfig p s = s.setStatus .ignored := by
  simp only [sndConfig, hpayload]

/-- A packet at the port of SND.RECV. -/
theorem exec_sndRecv (i : Instr) {s : State} {now : Time} (hport : s.rxOp = .sndRecv now) :
    exec i s = sndRecv now (some (sndPacket i)) s := by
  cases i <;> exact receive_sndRecv (some _) hport

/-- A packet is consumed and the phase advances before its arm runs (R226). -/
theorem exec_sndOpen (i : Instr) {s : State} {now : Time} (h : SndOpen s now) :
    exec i s = sndPacket i now ((s.begin.touch now).setIni { s.ini with phase := .tchk }).popIni := by
  rw [exec_sndRecv i h.port, sndRecv_open h]

/-- SND.RECV with no datagram (R226). -/
theorem sndRecv_none {s : State} {now : Time} (h : SndOpen s now) :
    sndRecv now none s = .next (((s.begin.touch now).setIni { s.ini with phase := .tchk }).setStatus .rxNone) := by
  rw [sndRecv, timed_run (by simp [Initiator.inPhase, h.enabled, h.inRecv]) h.clock]
  rfl

/-- SND.RECV is offered what INI.HS_STEP would be: the head of the one receive queue of the unit (R75, R83). -/
theorem offered_sndRecv (now : Time) (offer : Bool) (isn2 : Seq) (s : State) :
    offered (.sndRecv now offer) s = offered (.iniHsStep now offer isn2) s := rfl

/-- The step of SND.RECV, with the handling of the datagram that it is offered. -/
theorem step_sndRecv_eq {s : State} {rest : List Action} {now : Time} {offer : Bool}
    (hs : s.script = .op (.sndRecv now offer) :: rest) :
    step s = sndRecv now ((offered (.sndRecv now offer) s).map sndDatagram)
      { s with script := rest, rxOp := .sndRecv now } := by
  cases hoffer : offered (.sndRecv now offer) s with
  | none => exact step_none hs hoffer
  | some d =>
    rw [Option.map_some]
    cases hd : decode d with
    | ok i =>
      rw [step_decoded hs hoffer hd, sndDatagram_of_ok hd]
      exact exec_sndRecv i rfl
    | error why =>
      rw [step_malformed hs hoffer hd, sndDatagram_of_error hd]
      rfl

/-! ## SND.TCHK (R232 to R234) -/

/-- An enabled SND.TCHK chooses among its arms; a timer started after `now` is outside the premise of R13 (R232). -/
theorem opTchk_enabled {s : State} {now : Time} (h : SndEnabled s .tchk now) :
    opTchk now s =
      if s.ini.timerRunning = true ∧ now < s.ini.timerStart then .refused .timeBackwards
      else if s.ini.timerRunning = true ∧ tcExpired s.ini s.ini.timerStart now = true then
        .next ((emitRaw s.ini.unacked
          ((s.begin.touch now).setIni { s.ini.retransmitAll now with phase := .fill })).setStatus .retransmitted)
      else .next (((s.begin.touch now).setIni { s.ini with phase := .fill }).setStatus .noTimeout) := by
  rw [opTchk, timed_run h.inPhase_eq_true h.clock]
  rfl

/-- SND.TCHK when the timer runs and strictly more than the timeout has passed (R165, R232). -/
theorem opTchk_expired {s : State} {now : Time} (h : SndEnabled s .tchk now) (hrun : s.ini.timerRunning = true)
    (hstart : s.ini.timerStart ≤ now) (hexpired : s.ini.rto < now.toNat - s.ini.timerStart.toNat) :
    opTchk now s = .next ((emitRaw s.ini.unacked
      ((s.begin.touch now).setIni { s.ini.retransmitAll now with phase := .fill })).setStatus .retransmitted) := by
  have hforward : ¬(s.ini.timerRunning = true ∧ now < s.ini.timerStart) := fun hback => BitVec.not_lt.mpr hstart hback.2
  rw [opTchk_enabled h, if_neg hforward, if_pos ⟨hrun, tcExpired_of_lt hexpired⟩]

/-- SND.TCHK when the timer is stopped or no more than the timeout has passed (R165, R232). -/
theorem opTchk_quiet {s : State} {now : Time} (h : SndEnabled s .tchk now)
    (hquiet : s.ini.timerRunning = false ∨ s.ini.timerStart ≤ now ∧ now.toNat - s.ini.timerStart.toNat ≤ s.ini.rto) :
    opTchk now s = .next (((s.begin.touch now).setIni { s.ini with phase := .fill }).setStatus .noTimeout) := by
  have hforward : ¬(s.ini.timerRunning = true ∧ now < s.ini.timerStart) := by
    rintro ⟨hrun, hback⟩
    obtain hstopped | ⟨hstart, -⟩ := hquiet
    · simp [hstopped] at hrun
    · exact BitVec.not_lt.mpr hstart hback
  have hlive : ¬(s.ini.timerRunning = true ∧ tcExpired s.ini s.ini.timerStart now = true) := by
    rintro ⟨hrun, hexpired⟩
    obtain hstopped | ⟨-, hle⟩ := hquiet
    · simp [hstopped] at hrun
    · simp [tcExpired_of_le hle] at hexpired
  rw [opTchk_enabled h, if_neg hforward, if_neg hlive]

/-- What a timeout sends again is in strictly ascending order of sequence when the buffer is (R25, R232). -/
theorem unacked_pairwise {i : Initiator} (h : ascending Pending.key i.pend = true) :
    i.unacked.Pairwise (fun e e' => e.seq < e'.seq) :=
  ((ascending_iff_pairwise i.pend).mp h).sublist List.filter_sublist

/-! ## The statements -/

/-- Settles O33: the step takes the second arm, whose slice is read byte by byte. -/
theorem fillSendsOnePacket : Obligations.FillSendsOnePacket := by
  unfold Obligations.FillSendsOnePacket
  intro s rest now chunk size payload hs h hbase hnext hroom hlow hhigh hsize hfits hpayload
  have hslice : payload = s.src.slice s.ini.sliceStart size := hpayload.trans (Memory.slice_eq_map _ _ _).symm
  have hlen : payload.length = size := by rw [hslice, Memory.length_slice]
  rw [step_sndFill hs, opFill_run_send chunk (h.withScript rest) hbase hnext hroom]
  refine Eq.trans (fillSend_run hlow hhigh hsize hfits hslice) ?_
  rw [Initiator.sendNew_eq, newPending_eq, encode_mkData, hlen]
  rfl

/-- Settles O34: the step takes the third arm, whatever the chunk. -/
theorem fillClosesTheWindow : Obligations.FillClosesTheWindow := by
  unfold Obligations.FillClosesTheWindow
  intro s rest now chunk hs h hbase hclosed
  rw [step_sndFill hs, opFill_run_closed chunk (h.withScript rest) hbase hclosed]
  rfl

/-- Settles O35: the step is SND.RECV with no datagram, or with one that does not parse. -/
theorem recvOfNothingOrMalformedAdvancesPhase : Obligations.RecvOfNothingOrMalformedAdvancesPhase := by
  unfold Obligations.RecvOfNothingOrMalformedAdvancesPhase
  intro s rest now offer hs h
  rw [step_sndRecv_eq hs, offered_sndRecv now offer 0]
  constructor
  · intro hnone
    rw [offered_iniHsStep_eq_none hnone, Option.map_none, sndRecv_none (h.sndOpen rest)]
    rfl
  · intro d q why hoffer hq hd
    rw [offered_iniHsStep_eq_some.mpr ⟨hoffer, q, hq⟩, Option.map_some, sndRecv_open (h.sndOpen rest), sndDatagram_of_error hd]
    obtain rfl : s.iniQueue.tail = q := congrArg List.tail hq
    rfl

/-- Settles O36: the packet is consumed, and its arm is the one that ignores it. -/
theorem recvIgnoresEveryOtherPacket : Obligations.RecvIgnoresEveryOtherPacket := by
  unfold Obligations.RecvIgnoresEveryOtherPacket
  intro i s now h hconfig hack
  rw [exec_sndOpen i h, sndPacket_ignored hconfig hack]
  rfl

/-- Settles O37: the packet is consumed, and by the length invariant of R107 its first byte decides which arm runs. -/
theorem recvConfigLatchesDropRate : Obligations.RecvConfigLatchesDropRate := by
  unfold Obligations.RecvConfigLatchesDropRate
  intro p s now h hwf
  rw [exec_sndOpen _ h, sndPacket]
  constructor
  · intro pct more hpayload
    exact congrArg Host.Outcome.next (sndConfig_cons hwf hpayload _)
  · intro hpayload
    exact congrArg Host.Outcome.next (sndConfig_nil hpayload _)

/-- Settles O40: the retransmitted entries are a sublist of the ascending buffer, and the comparison of TC.EXPIRED decides which arm
runs. -/
theorem timeoutRetransmitsTheWholeWindow : Obligations.TimeoutRetransmitsTheWholeWindow := by
  unfold Obligations.TimeoutRetransmitsTheWholeWindow
  intro s rest now again hs h hasc hagain
  obtain rfl : again = s.ini.unacked := hagain
  rw [step_sndTchk hs]
  refine ⟨unacked_pairwise hasc, fun hrun hstart hexpired => ?expired, fun hquiet => ?quiet⟩
  case expired =>
    rw [opTchk_expired (h.withScript rest) hrun hstart hexpired, emitRaw_eq, Initiator.retransmitAll_eq]
    rfl
  case quiet =>
    rw [opTchk_quiet (h.withScript rest) hquiet]
    rfl

end Sys2Proof.Machine

/-! # The responder's connections: what RSP.RX does with a datagram, and what changes the state of a peer
(spec/44_responder_connection.md R260 to R269, spec/60_exceptions.md R311, spec/70_reset_and_hazards.md R351) -/

namespace Sys2Proof.Machine

/-! ## RSP.RX, whatever it is offered (R260) -/

/-- What a packet does in RSP.RX: SYN, DATA, ACK and FIN have an arm, every other type is ignored (R262 to R268). -/
def rspPacket (addr : Addr) (lseq : Seq) (loss : Fin 100) (ts : List Byte) : Instr → State → Result
  | .syn p, s => .next (rspSyn addr lseq p.sequence s)
  | .data p, s => rspData addr p.sequence p.payload loss ts s
  | .ack _, s => .next (rspAck addr s)
  | .fin p, s => .next (rspFin addr p.sequence s)
  | _, s => .next (s.setStatus .ignored)

/-- What a consumed datagram does in RSP.RX (R260, R311). -/
def rspDatagram (addr : Addr) (lseq : Seq) (loss : Fin 100) (ts : List Byte) (d : Datagram) (s : State) : Result :=
  match decode d with
  | .ok i => rspPacket addr lseq loss ts i s
  | .error _ => .next (rspMalformed s)

section
variable {s : State} {addr : Addr} {lseq : Seq} {loss : Fin 100} {ts : List Byte}

theorem rspPacket_ignored {i : Instr} (hi : i.unassigned = true ∨ (∃ p, i = .synAck p) ∨ ∃ p, i = .config p) :
    rspPacket addr lseq loss ts i s = .next (s.setStatus .ignored) := by
  cases i with
  | syn | data | ack | fin => simp [Instr.unassigned, Instr.code] at hi
  | _ => rfl

theorem rspDatagram_of_ok {d : Datagram} {i : Instr} (hd : decode d = .ok i) :
    rspDatagram addr lseq loss ts d s = rspPacket addr lseq loss ts i s := by
  simp only [rspDatagram, hd]

theorem rspDatagram_of_error {d : Datagram} {why : Malformed} (hd : decode d = .error why) :
    rspDatagram addr lseq loss ts d s = .next (rspMalformed s) := by
  simp only [rspDatagram, hd]

/-- A packet at the port of RSP.RX. -/
theorem exec_rspRx (i : Instr) (hport : s.rxOp = .rspRx addr lseq loss ts) :
    exec i s = rspPacket addr lseq loss ts i s.begin.popRsp := by
  cases i <;> exact receive_rspRx _ hport

/-- The step of RSP.RX, with the handling of the datagram at the head of the queue. -/
theorem step_rspRx_eq {rest : List Action} {d : Datagram} {q : List (Addr × Datagram)}
    (hs : s.script = .op (.rspRx lseq loss ts) :: rest) (hq : s.rspQueue = (addr, d) :: q) :
    step s = rspDatagram addr lseq loss ts d
      { s with script := rest, rxOp := .rspRx addr lseq loss ts, out := Output.empty, rspQueue := q } := by
  have hoffer : offered (.rspRx lseq loss ts) s = some d := by simp [offered, hq]
  have hlatch : latch (.rspRx lseq loss ts) { s with script := rest } =
      { s with script := rest, rxOp := .rspRx addr lseq loss ts } := by simp [latch, headAddr, hq]
  obtain rfl : s.rspQueue.tail = q := congrArg List.tail hq
  cases hd : decode d with
  | ok i =>
    rw [step_decoded hs hoffer hd, hlatch, rspDatagram_of_ok hd]
    exact exec_rspRx i rfl
  | error why =>
    rw [step_malformed hs hoffer hd, hlatch, rspDatagram_of_error hd]
    rfl

/-- RSP.RX is refused when no datagram waits (R260). -/
theorem step_rspRx_of_empty {rest : List Action} (hs : s.script = .op (.rspRx lseq loss ts) :: rest) (hq : s.rspQueue = []) :
    step s = .refused .noDatagram := by
  have hoffer : offered (.rspRx lseq loss ts) s = none := by simp [offered, hq]
  rw [step_none hs hoffer]
  rfl

/-! ## The SYN arm (R262, R269) -/

/-- A bounded table is full when it holds as many records as it may (R10, R269). -/
theorem Responder.full_iff (r : Responder) {par : Params} (hpos : ∀ m, par.maxPeers = some m → 1 ≤ m) :
    r.full par = true ↔ ∃ m, par.maxPeers = some m ∧ m ≤ r.peers.length := by
  unfold Responder.full
  cases hmax : par.maxPeers with
  | none => simp
  | some m =>
    have hsome (hle : m ≤ r.peers.length) : r.peers ≠ [] := List.ne_nil_of_length_pos ((hpos m hmax).trans hle)
    simpa using hsome

theorem rspSyn_of_full (clientSeq : Seq) (hnone : s.rsp.find addr = none) (hfull : s.rsp.full s.par = true) :
    rspSyn addr lseq clientSeq s = rspReject s :=
  if_pos (by simp [hnone, hfull])

theorem rspSyn_of_room (clientSeq : Seq) (hroom : s.rsp.find addr ≠ none ∨ s.rsp.full s.par = false) :
    rspSyn addr lseq clientSeq s =
      ((s.setRsp (s.rsp.put ⟨addr, .synReceived, 0, lseq⟩)).emitReply addr (encode (mkSynAck lseq clientSeq))).setStatus
        .synAccepted := by
  refine if_neg ?_
  obtain hfind | hfull := hroom
  · simp [hfind]
  · simp [hfull]

/-! ## The state of a peer (R261) -/

/-- A write changes the state of the peer that it writes and of no other. -/
theorem Responder.put_state_ne {r : Responder} {p : Peer} {b : Addr}
    (hne : ((r.put p).find b).map Peer.state ≠ (r.find b).map Peer.state) :
    p.addr = b ∧ ((r.put p).find b).map Peer.state = some p.state := by
  have hb : p.addr = b := by
    by_contra hb
    exact hne (by rw [r.find_put_ne hb])
  subst hb
  exact ⟨rfl, by rw [Responder.find_put_self, Option.map_some]⟩

/-- A removal changes the state of the peer that it removes and of no other. -/
theorem Responder.free_state_ne {r : Responder} {a b : Addr}
    (hne : ((r.free a).find b).map Peer.state ≠ (r.find b).map Peer.state) : a = b ∧ (r.free a).find b = none := by
  have hb : a = b := by
    by_contra hb
    exact hne (by rw [r.find_free_ne hb])
  subst hb
  exact ⟨rfl, r.find_free_self a⟩

theorem rspSyn_state_ne {clientSeq : Seq} {b : Addr}
    (hne : ((rspSyn addr lseq clientSeq s).rsp.find b).map Peer.state ≠ (s.rsp.find b).map Peer.state) :
    addr = b ∧ ((rspSyn addr lseq clientSeq s).rsp.find b).map Peer.state = some .synReceived := by
  unfold rspSyn at hne ⊢
  split at hne
  · exact absurd rfl hne
  · rw [if_neg ‹_›]
    exact Responder.put_state_ne hne

theorem rspAck_state_ne {b : Addr} (hne : ((rspAck addr s).rsp.find b).map Peer.state ≠ (s.rsp.find b).map Peer.state) :
    addr = b ∧ (s.rsp.find b).map Peer.state = some .synReceived ∧
      ((rspAck addr s).rsp.find b).map Peer.state = some .established := by
  cases hfind : s.rsp.find addr with
  | none => exact absurd (by rw [rspAck_of_none hfind]; rfl) hne
  | some r =>
    cases hstate : r.state with
    | synReceived =>
      rw [rspAck_of_synReceived hfind hstate] at hne ⊢
      obtain ⟨haddr, hnew⟩ := Responder.put_state_ne hne
      obtain rfl : addr = b := (Responder.find_addr hfind).symm.trans haddr
      exact ⟨rfl, by rw [hfind, Option.map_some, hstate], hnew⟩
    | established => exact absurd (by rw [rspAck_of_established hfind hstate]; rfl) hne

theorem rspFin_state_ne {senderSeq : Seq} {b : Addr}
    (hne : ((rspFin addr senderSeq s).rsp.find b).map Peer.state ≠ (s.rsp.find b).map Peer.state) :
    addr = b ∧ (rspFin addr senderSeq s).rsp.find b = none := by
  cases hfind : s.rsp.find addr with
  | none => exact absurd (by rw [rspFin_of_none senderSeq hfind]; rfl) hne
  | some r =>
    rw [rspFin_of_some senderSeq hfind] at hne ⊢
    exact Responder.free_state_ne hne

/-- DATA moves `expectedSeq` at the most (R290, R292). -/
theorem rspData_state {sequence : Seq} {payload : List Byte} {t : State} (h : rspData addr sequence payload loss ts s = .next t)
    (b : Addr) : (t.rsp.find b).map Peer.state = (s.rsp.find b).map Peer.state := by
  obtain rfl | rfl | ⟨r, hfind, rfl⟩ := rspData_next h
  · rfl
  · rfl
  · unfold acceptData
    split
    · by_contra hne
      obtain ⟨haddr, hnew⟩ := Responder.put_state_ne hne
      obtain rfl : addr = b := (Responder.find_addr hfind).symm.trans haddr
      exact hne (by rw [hfind]; exact hnew)
    · rfl

end

/-- The changes of one peer's state that a packet from that peer makes (R261). -/
def PeerStateMove (i : Instr) (b : Addr) (r r' : Responder) : Prop :=
  (∃ p, i = .syn p) ∧ (r'.find b).map Peer.state = some .synReceived ∨
  (∃ p, i = .ack p) ∧ (r.find b).map Peer.state = some .synReceived ∧ (r'.find b).map Peer.state = some .established ∨
  (∃ p, i = .fin p) ∧ r'.find b = none

/-- A packet changes the state of no peer but its sender, and that only as R261 lists. -/
theorem rspPacket_state_ne {s t : State} {addr b : Addr} {lseq : Seq} {loss : Fin 100} {ts : List Byte} {i : Instr}
    (h : rspPacket addr lseq loss ts i s = .next t) (hne : (t.rsp.find b).map Peer.state ≠ (s.rsp.find b).map Peer.state) :
    addr = b ∧ PeerStateMove i b s.rsp t.rsp := by
  cases i with
  | syn p =>
    cases h
    obtain ⟨haddr, hnew⟩ := rspSyn_state_ne hne
    exact ⟨haddr, .inl ⟨⟨p, rfl⟩, hnew⟩⟩
  | ack p =>
    cases h
    obtain ⟨haddr, hold, hnew⟩ := rspAck_state_ne hne
    exact ⟨haddr, .inr (.inl ⟨⟨p, rfl⟩, hold, hnew⟩)⟩
  | fin p =>
    cases h
    obtain ⟨haddr, hnew⟩ := rspFin_state_ne hne
    exact ⟨haddr, .inr (.inr ⟨⟨p, rfl⟩, hnew⟩)⟩
  | data p => exact absurd (rspData_state h b) hne
  | _ =>
    cases h
    exact absurd rfl hne

/-- RSP.RX changes the state of a peer only by a packet that it received from that peer (R260, R261). -/
theorem step_rspRx_state_ne {s t : State} {b : Addr} {rest : List Action} {lseq : Seq} {loss : Fin 100} {ts : List Byte}
    (hs : s.script = .op (.rspRx lseq loss ts) :: rest) (h : step s = .next t)
    (hne : (t.rsp.find b).map Peer.state ≠ (s.rsp.find b).map Peer.state) :
    ∃ d q i, s.rspQueue = (b, d) :: q ∧ decode d = .ok i ∧ PeerStateMove i b s.rsp t.rsp := by
  cases hq : s.rspQueue with
  | nil =>
    rw [step_rspRx_of_empty hs hq] at h
    cases h
  | cons head q =>
    obtain ⟨addr, d⟩ := head
    rw [step_rspRx_eq hs hq] at h
    cases hd : decode d with
    | ok i =>
      rw [rspDatagram_of_ok hd] at h
      obtain ⟨rfl, hmove⟩ := rspPacket_state_ne h hne
      exact ⟨d, q, i, rfl, hd, hmove⟩
    | error why =>
      rw [rspDatagram_of_error hd] at h
      cases h
      exact absurd rfl hne

/-- A step that changes the responder runs an operation of the script (R33, R75). -/
theorem step_rsp_ne {s t : State} (h : step s = .next t) (hne : t.rsp ≠ s.rsp) :
    ∃ o rest, s.script = .op o :: rest ∧ runOp o { s with script := rest } = .next t := by
  cases hs : s.script with
  | nil =>
    rw [step, hs] at h
    cases h
    exact absurd rfl hne
  | cons a rest =>
    cases a with
    | op o => exact ⟨o, rest, rfl, (step_op hs).symm.trans h⟩
    | env e =>
      rw [step_env hs] at h
      cases h
      obtain ⟨-, hrsp, -⟩ := runEnv_frame e { s with script := rest }
      exact absurd hrsp hne

/-! ## The statements -/

/-- Settles O11: the two outcomes of the test for a full table. -/
theorem rspSynOpensRecordOrRejectsWhenFull : Obligations.RspSynOpensRecordOrRejectsWhenFull := by
  unfold Obligations.RspSynOpensRecordOrRejectsWhenFull
  intro p s addr lseq loss ts hport hpos
  have hfull := s.rsp.full_iff hpos
  rw [exec_rspRx _ hport, rspPacket]
  constructor
  · intro hroom
    have hopen : s.rsp.find addr ≠ none ∨ s.rsp.full s.par = false :=
      hroom.imp_right fun hlt => Bool.eq_false_iff.mpr fun h => by
        obtain ⟨m, hm, hle⟩ := hfull.mp h
        exact absurd hle (hlt m hm).not_ge
    rw [rspSyn_of_room (s := s.begin.popRsp) p.sequence hopen, encode_mkSynAck]
    rfl
  · intro ⟨hnone, hle⟩
    rw [rspSyn_of_full (s := s.begin.popRsp) p.sequence hnone (hfull.mpr hle)]
    rfl

/-- Settles O12: one arm for each state of the peer. -/
theorem rspAckEstablishesRejectsOrIgnores : Obligations.RspAckEstablishesRejectsOrIgnores := by
  unfold Obligations.RspAckEstablishesRejectsOrIgnores
  intro p s addr lseq loss ts hport
  rw [exec_rspRx _ hport, rspPacket]
  refine ⟨fun r hfind hstate => ?_, fun hnone => ?_, fun r hfind hstate => ?_⟩
  · rw [rspAck_of_synReceived (s := s.begin.popRsp) hfind hstate, encode_mkConfig]
    rfl
  · rw [rspAck_of_none (s := s.begin.popRsp) hnone]
    rfl
  · rw [rspAck_of_established (s := s.begin.popRsp) hfind hstate]
    rfl

/-- Settles O13: the record is freed when there is one. -/
theorem rspFinClosesRecordOrRejects : Obligations.RspFinClosesRecordOrRejects := by
  unfold Obligations.RspFinClosesRecordOrRejects
  intro p s addr lseq loss ts hport
  rw [exec_rspRx _ hport, rspPacket]
  constructor
  · intro hrecord
    obtain ⟨r, hfind⟩ := Option.ne_none_iff_exists'.mp hrecord
    rw [rspFin_of_some (s := s.begin.popRsp) p.sequence hfind, encode_mkFinAck]
    rfl
  · intro hnone
    rw [rspFin_of_none (s := s.begin.popRsp) p.sequence hnone]
    rfl

/-- Settles O14: DATA is rejected before a draw is read. -/
theorem rspDataRejectedUnlessEstablished : Obligations.RspDataRejectedUnlessEstablished := by
  unfold Obligations.RspDataRejectedUnlessEstablished
  intro p s addr lseq loss ts hport hpeer
  have hreject : rspData addr p.sequence p.payload loss ts s.begin.popRsp = .next (rspReject s.begin.popRsp) := by
    obtain hnone | ⟨r, hfind, hstate⟩ := hpeer
    · exact rspData_of_none _ _ _ _ hnone
    · exact rspData_of_synReceived _ _ _ _ hfind hstate
  rw [exec_rspRx _ hport, rspPacket, hreject]
  rfl

/-- Settles O16: no other type has an arm. -/
theorem rspIgnoresEveryOtherType : Obligations.RspIgnoresEveryOtherType := by
  unfold Obligations.RspIgnoresEveryOtherType
  intro i s addr lseq loss ts hport hi
  rw [exec_rspRx i hport, rspPacket_ignored hi]
  rfl

/-- Settles O17: the step is RSP.RX of a datagram that does not parse. -/
theorem rspMalformedIsCountedOnly : Obligations.RspMalformedIsCountedOnly := by
  unfold Obligations.RspMalformedIsCountedOnly
  intro s rest addr d q lseq loss ts why hs hq hd
  rw [step_rspRx_eq hs hq, rspDatagram_of_error hd]
  rfl

/-- Settles O24: the operation that ran, and the arm of it that writes the peer's record. -/
theorem peerStateChangesOnlyBySynAckFinOrReset : Obligations.PeerStateChangesOnlyBySynAckFinOrReset := by
  unfold Obligations.PeerStateChangesOnlyBySynAckFinOrReset
  intro s t b hstep hne
  obtain ⟨o, rest, hs, hrun⟩ := step_rsp_ne hstep fun hsame => hne (by rw [hsame])
  refine ⟨rest, ?_⟩
  cases o with
  | rspReset =>
    cases hrun
    exact .inl ⟨hs, rfl⟩
  | rspRx lseq loss ts =>
    obtain ⟨d, q, i, hq, hd, hmove⟩ := step_rspRx_state_ne hs hstep hne
    exact .inr ⟨lseq, loss, ts, d, q, i, hs, hq, hd, hmove⟩
  | rspCfgWrite pct =>
    obtain ⟨-, rfl⟩ := opRspCfgWrite_next hrun
    exact absurd rfl hne
  | iniReset | iniCfgWrite | iniConnect | iniHsStep | sndFill | sndRecv | sndTchk | hcEncode | hcDecode | hcParse =>
    exact absurd (by rw [(runOp_frame hrun).rsp rfl]) hne

end Sys2Proof.Machine

/-! # The ordered receiver: the loss policy, the expected sequence number and the cumulative ACK
(spec/45_ordered_receiver.md R290 to R297) -/

namespace Sys2Proof.Machine

/-! ## The cumulative ACK (R294) -/

/-- With a timestamp in its range the length byte of the ACK is `ACK_TS_LEN` (R113). -/
theorem encode_mkCumulativeAck_of_length {ts : List Byte} {len : BitVec 8} (hts : ts.length = len.toNat) (n : Seq) :
    encode (mkCumulativeAck n ts) = wire 0x4F 0 n len ts := by
  rw [encode_mkCumulativeAck, hts, BitVec.ofNat_toNat, BitVec.setWidth_eq]

/-! ## An accepted packet (R292, R293) -/

section
variable {r : Peer} {sequence : Seq} (payload ts : List Byte) (s : State)

theorem acceptData_of_expected (hseq : sequence = r.expectedSeq) :
    acceptData r sequence payload ts s =
      (sendCumulativeAck r.addr (r.expectedSeq + 1) ts
        ((s.setRsp (s.rsp.put { r with expectedSeq := r.expectedSeq + 1 })).emitDeliver
          ⟨r.addr, sequence, payload, true⟩)).setStatus .dataInOrder :=
  if_pos hseq

theorem acceptData_of_unexpected (hseq : sequence ≠ r.expectedSeq) :
    acceptData r sequence payload ts s =
      (sendCumulativeAck r.addr r.expectedSeq ts
        ((s.setRsp s.rsp.countOutOfOrder).emitDeliver ⟨r.addr, sequence, payload, false⟩)).setStatus .dataOutOfOrder :=
  if_neg hseq

theorem acceptData_status_ne_dropped : (acceptData r sequence payload ts s).out.status ≠ some .dataDropped := by
  by_cases hseq : sequence = r.expectedSeq
  · simp [acceptData_of_expected payload ts s hseq]
  · simp [acceptData_of_unexpected payload ts s hseq]

theorem acceptData_dropCount : (acceptData r sequence payload ts s).rsp.dropCount = s.rsp.dropCount := by
  by_cases hseq : sequence = r.expectedSeq
  · rw [acceptData_of_expected payload ts s hseq]; rfl
  · rw [acceptData_of_unexpected payload ts s hseq]; rfl

/-- The expected packet advances the expected number (R292). -/
theorem acceptData_find_of_expected (hseq : sequence = r.expectedSeq) :
    (acceptData r sequence payload ts s).rsp.find r.addr = some { r with expectedSeq := r.expectedSeq + 1 } := by
  rw [acceptData_of_expected payload ts s hseq]
  exact s.rsp.find_put_self { r with expectedSeq := r.expectedSeq + 1 }

/-- Any other packet leaves every record (R293). -/
theorem acceptData_find_of_unexpected (hseq : sequence ≠ r.expectedSeq) (addr : Addr) :
    (acceptData r sequence payload ts s).rsp.find addr = s.rsp.find addr := by
  rw [acceptData_of_unexpected payload ts s hseq]
  exact s.rsp.find_countOutOfOrder addr

end

/-! ## DATA from an ESTABLISHED peer at the port of RSP.RX (R290, R291) -/

section
variable {p : Pkt} {s : State} {addr : Addr} {lseq : Seq} {loss : Fin 100} {ts : List Byte} {r : Peer}

theorem exec_data_of_lost (hport : s.rxOp = .rspRx addr lseq loss ts) (hfind : s.rsp.find addr = some r)
    (hstate : r.state = .established) (hloss : loss.val < s.rsp.dropPct.toNat) :
    exec (.data p) s = .next ((s.begin.popRsp.setRsp s.rsp.countDrop).setStatus .dataDropped) := by
  rw [exec_rspRx _ hport, rspPacket, rspData_of_established (s := s.begin.popRsp) _ _ _ _ hfind hstate]
  exact if_pos hloss

theorem exec_data_of_passed (hport : s.rxOp = .rspRx addr lseq loss ts) (hfind : s.rsp.find addr = some r)
    (hstate : r.state = .established) (hloss : s.rsp.dropPct.toNat ≤ loss.val) :
    exec (.data p) s =
      if tsInRange s.par ts then .next (acceptData r p.sequence p.payload ts s.begin.popRsp) else .refused .drawOutOfRange := by
  rw [exec_rspRx _ hport, rspPacket, rspData_of_established (s := s.begin.popRsp) _ _ _ _ hfind hstate]
  exact if_neg hloss.not_gt

theorem exec_data_of_accepted (hport : s.rxOp = .rspRx addr lseq loss ts) (hfind : s.rsp.find addr = some r)
    (hstate : r.state = .established) (hloss : s.rsp.dropPct.toNat ≤ loss.val) (hts : ts.length = s.par.ackTsLen.toNat) :
    exec (.data p) s = .next (acceptData r p.sequence p.payload ts s.begin.popRsp) := by
  rw [exec_data_of_passed hport hfind hstate hloss]
  exact if_pos (beq_iff_eq.mpr hts)

/-- Everything the packet can do when a next state is answered: it is lost, or it passes the loss policy and is accepted. -/
theorem exec_data_next (hport : s.rxOp = .rspRx addr lseq loss ts) (hfind : s.rsp.find addr = some r)
    (hstate : r.state = .established) {t : State} (h : exec (.data p) s = .next t) :
    (loss.val < s.rsp.dropPct.toNat ∧ t = (s.begin.popRsp.setRsp s.rsp.countDrop).setStatus .dataDropped) ∨
      (s.rsp.dropPct.toNat ≤ loss.val ∧ t = acceptData r p.sequence p.payload ts s.begin.popRsp) := by
  obtain hloss | hloss := Nat.lt_or_ge loss.val s.rsp.dropPct.toNat
  · rw [exec_data_of_lost hport hfind hstate hloss] at h
    cases h
    exact .inl ⟨hloss, rfl⟩
  · rw [exec_data_of_passed hport hfind hstate hloss] at h
    split at h
    · cases h
      exact .inr ⟨hloss, rfl⟩
    · cases h

/-- A packet that is not the expected one, lost or accepted, leaves every record (R293). -/
theorem exec_data_find_of_unexpected (hport : s.rxOp = .rspRx addr lseq loss ts) (hfind : s.rsp.find addr = some r)
    (hstate : r.state = .established) (hseq : p.sequence ≠ r.expectedSeq) {t : State} (h : exec (.data p) s = .next t) :
    t.rsp.find addr = some r := by
  obtain ⟨-, rfl⟩ | ⟨-, rfl⟩ := exec_data_next hport hfind hstate h
  · exact (s.rsp.find_countDrop addr).trans hfind
  · exact (acceptData_find_of_unexpected _ _ s.begin.popRsp hseq addr).trans hfind

/-- The expected packet, when it is not lost, advances the expected number by one (R292). -/
theorem exec_data_find_of_expected (hport : s.rxOp = .rspRx addr lseq loss ts) (hfind : s.rsp.find addr = some r)
    (hstate : r.state = .established) (hseq : p.sequence = r.expectedSeq) {t : State} (h : exec (.data p) s = .next t)
    (hkept : t.out.status ≠ some .dataDropped) :
    t.rsp.find addr = some { r with expectedSeq := r.expectedSeq + 1 } := by
  obtain ⟨-, rfl⟩ | ⟨-, rfl⟩ := exec_data_next hport hfind hstate h
  · exact absurd rfl hkept
  · obtain rfl := Responder.find_addr hfind
    exact acceptData_find_of_expected _ _ s.begin.popRsp hseq

end

/-! ## The statements -/

/-- Settles O15: the loss policy first, then the comparison of the sequence number. -/
theorem rspDataDroppedOrAcceptedAndAcknowledged : Obligations.RspDataDroppedOrAcceptedAndAcknowledged := by
  unfold Obligations.RspDataDroppedOrAcceptedAndAcknowledged
  intro p s addr lseq loss ts r hport hfind hstate hts
  obtain rfl := Responder.find_addr hfind
  refine ⟨fun hloss => ?_, fun hloss hseq => ?_, fun hloss hseq => ?_⟩
  · rw [exec_data_of_lost hport hfind hstate hloss]
    rfl
  · rw [exec_data_of_accepted hport hfind hstate hloss hts, acceptData_of_expected _ _ _ hseq, sendCumulativeAck,
      encode_mkCumulativeAck_of_length hts]
    rfl
  · rw [exec_data_of_accepted hport hfind hstate hloss hts, acceptData_of_unexpected _ _ _ hseq, sendCumulativeAck,
      encode_mkCumulativeAck_of_length hts]
    rfl

/-- Settles O18: a draw is at least 0 and below 100, and only a lost packet answers that it was dropped. -/
theorem lossPolicyNeverAtZeroAlwaysAtHundred : Obligations.LossPolicyNeverAtZeroAlwaysAtHundred := by
  unfold Obligations.LossPolicyNeverAtZeroAlwaysAtHundred
  intro p s t addr lseq loss ts r hport hfind hstate h
  obtain ⟨hloss, rfl⟩ | ⟨hloss, rfl⟩ := exec_data_next hport hfind hstate h
  · refine ⟨fun hzero => ?_, fun _ => rfl, fun _ => ⟨rfl, rfl⟩⟩
    rw [hzero] at hloss
    exact absurd hloss (Nat.not_lt_zero _)
  · have hstatus := acceptData_status_ne_dropped (r := r) (sequence := p.sequence) p.payload ts s.begin.popRsp
    refine ⟨fun _ => ⟨hstatus, acceptData_dropCount _ _ s.begin.popRsp⟩, fun hhundred => ?_,
      fun hdropped => absurd hdropped hstatus⟩
    rw [hhundred] at hloss
    exact absurd loss.isLt hloss.not_gt

/-- Settles O23: the first packet leaves the record, which the expected one then advances. -/
theorem outOfOrderArrivalIsForgotten : Obligations.OutOfOrderArrivalIsForgotten := by
  unfold Obligations.OutOfOrderArrivalIsForgotten
  intro p q s t u addr l l' x x' ts ts' r hfind hstate hp hq ht hu hkept
  have hrecord : t.rsp.find addr = some r :=
    exec_data_find_of_unexpected (s := { s with rxOp := .rspRx addr l x ts }) rfl hfind hstate hp ht
  exact ⟨hrecord, exec_data_find_of_expected (s := { t with rxOp := .rspRx addr l' x' ts' }) rfl hrecord hstate hq hu hkept⟩

end Sys2Proof.Machine

/-! # The outcomes of RSP.RX and their counters, and the idle step (spec/60_exceptions.md R315, R326) -/

namespace Sys2Proof.Machine

/-! ## The counter of each outcome (R315) -/

/-- The counters of the three ways in which a datagram comes to nothing, and the counter of out-of-order DATA (R31). -/
def Responder.counters (r : Responder) : (Count × Count × Count) × Count :=
  ((r.dropCount, r.rejectCount, r.malformedCount), r.oooCount)

/-- The Responder unit with the counter that belongs to a status one larger (R293, R315). -/
def Responder.countOutcome (r : Responder) : Status → Responder
  | .dataDropped => r.countDrop
  | .rejected => r.countReject
  | .malformed => r.countMalformed
  | .dataOutOfOrder => r.countOutOfOrder
  | _ => r

/-- A status selects at most one of the first three counters, and the fourth by itself. -/
theorem Responder.countOutcome_counters (r : Responder) (x : Status) :
    (r.countOutcome x).counters =
      (if some x = some .dataDropped then (r.dropCount + 1, r.rejectCount, r.malformedCount)
       else if some x = some .rejected then (r.dropCount, r.rejectCount + 1, r.malformedCount)
       else if some x = some .malformed then (r.dropCount, r.rejectCount, r.malformedCount + 1)
       else (r.dropCount, r.rejectCount, r.malformedCount),
       if some x = some .dataOutOfOrder then r.oooCount + 1 else r.oooCount) := by
  cases x <;> rfl

/-- From one state to the next a status is returned, and the counters move as that status says (R315). -/
def CountsItsOutcome (s t : State) : Prop :=
  ∃ x, t.out.status = some x ∧ t.rsp.counters = (s.rsp.countOutcome x).counters

/-! ## Every arm of RSP.RX counts its outcome (R260, R290) -/

theorem rspReject_counts (s : State) : CountsItsOutcome s (rspReject s) := ⟨.rejected, rfl, rfl⟩

theorem rspMalformed_counts (s : State) : CountsItsOutcome s (rspMalformed s) := ⟨.malformed, rfl, rfl⟩

theorem ignored_counts (s : State) : CountsItsOutcome s (s.setStatus .ignored) := ⟨.ignored, rfl, rfl⟩

theorem rspSyn_counts (addr : Addr) (lseq clientSeq : Seq) (s : State) : CountsItsOutcome s (rspSyn addr lseq clientSeq s) := by
  unfold rspSyn
  split
  · exact rspReject_counts s
  · exact ⟨.synAccepted, rfl, rfl⟩

theorem rspAck_counts (addr : Addr) (s : State) : CountsItsOutcome s (rspAck addr s) := by
  cases hfind : s.rsp.find addr with
  | none =>
    rw [rspAck_of_none hfind]
    exact rspReject_counts s
  | some r =>
    cases hstate : r.state with
    | synReceived =>
      rw [rspAck_of_synReceived hfind hstate]
      exact ⟨.peerEstablished, rfl, rfl⟩
    | established =>
      rw [rspAck_of_established hfind hstate]
      exact ignored_counts s

theorem rspFin_counts (addr : Addr) (senderSeq : Seq) (s : State) : CountsItsOutcome s (rspFin addr senderSeq s) := by
  cases hfind : s.rsp.find addr with
  | none =>
    rw [rspFin_of_none senderSeq hfind]
    exact rspReject_counts s
  | some r =>
    rw [rspFin_of_some senderSeq hfind]
    exact ⟨.finClosed, rfl, rfl⟩

theorem acceptData_counts (r : Peer) (sequence : Seq) (payload ts : List Byte) (s : State) :
    CountsItsOutcome s (acceptData r sequence payload ts s) := by
  by_cases hseq : sequence = r.expectedSeq
  · rw [acceptData_of_expected payload ts s hseq]
    exact ⟨.dataInOrder, rfl, rfl⟩
  · rw [acceptData_of_unexpected payload ts s hseq]
    exact ⟨.dataOutOfOrder, rfl, rfl⟩

section
variable {s t : State} {addr : Addr} {lseq : Seq} {loss : Fin 100} {ts : List Byte}

theorem rspData_counts {sequence : Seq} {payload : List Byte} (h : rspData addr sequence payload loss ts s = .next t) :
    CountsItsOutcome s t := by
  obtain rfl | rfl | ⟨r, -, rfl⟩ := rspData_next h
  · exact rspReject_counts s
  · exact ⟨.dataDropped, rfl, rfl⟩
  · exact acceptData_counts r sequence payload ts s

theorem rspPacket_counts {i : Instr} (h : rspPacket addr lseq loss ts i s = .next t) : CountsItsOutcome s t := by
  cases i with
  | syn p =>
    cases h
    exact rspSyn_counts addr lseq p.sequence s
  | data p => exact rspData_counts h
  | ack p =>
    cases h
    exact rspAck_counts addr s
  | fin p =>
    cases h
    exact rspFin_counts addr p.sequence s
  | _ =>
    cases h
    exact ignored_counts s

theorem rspDatagram_counts {d : Datagram} (h : rspDatagram addr lseq loss ts d s = .next t) : CountsItsOutcome s t := by
  cases hd : decode d with
  | ok i =>
    rw [rspDatagram_of_ok hd] at h
    exact rspPacket_counts h
  | error why =>
    rw [rspDatagram_of_error hd] at h
    cases h
    exact rspMalformed_counts s

/-- A step of RSP.RX counts its outcome, whatever bytes it is offered. -/
theorem step_rspRx_counts {rest : List Action} (hs : s.script = .op (.rspRx lseq loss ts) :: rest) (h : step s = .next t) :
    CountsItsOutcome s t := by
  cases hq : s.rspQueue with
  | nil =>
    rw [step_rspRx_of_empty hs hq] at h
    cases h
  | cons head q =>
    rw [step_rspRx_eq hs hq] at h
    obtain ⟨x, hstatus, hcounters⟩ := rspDatagram_counts h
    exact ⟨x, hstatus, hcounters⟩

end

/-! ## The statements -/

/-- Settles O19: the status of each arm of RSP.RX names the only counter that the arm moves. -/
theorem eachDatagramCountsAtMostOnce : Obligations.EachDatagramCountsAtMostOnce := by
  unfold Obligations.EachDatagramCountsAtMostOnce
  intro s t rest lseq loss ts hs hstep
  obtain ⟨x, hstatus, hcounters⟩ := step_rspRx_counts hs hstep
  rw [hstatus]
  exact Prod.mk.inj (hcounters.trans (s.rsp.countOutcome_counters x))

/-- Settles O9: the step of an empty script. -/
theorem idleStepHoldsState : Obligations.IdleStepHoldsState := by
  unfold Obligations.IdleStepHoldsState
  intro s hs
  rw [step, hs]

end Sys2Proof.Machine
